-- ==== Sys2Proof/Word.lean ====
section
/-!
DEFINITION. The word types of the IXFM engine: a command or register word (30_encoding R100, 10_state R33),
a pixel sample (20_memory R70), and the integer vectors the kernels work on (00_scope R19).
-/

namespace Sys2Proof

/-- A command word or a host register word: 32 bits (10_state R33, 30_encoding R100). -/
abbrev Word := BitVec 32

/-- One PIX cell: a 16-bit unsigned sample (20_memory R70). -/
abbrev Sample := BitVec 16

/-- A vector of mathematical integers `X[0..N-1]` (00_scope R10, R19). -/
abbrev Vec := List Int

/-- Lane `k` of a vector. The kernels only ever name lanes below the vector's length. -/
def Vec.at (v : Vec) (k : Nat) : Int := v.getD k 0

end Sys2Proof
end

