-- ==== Sys2Proof/Syntax.lean ====
section
/-!
DEFINITION. The commands of the IXFM command set, revision 1 (30_encoding): one constructor of `Instr` for each row
of spec/opcode_table.json, and the enumerations its fields name.

A field whose every value is legal has an enumeration of its own (`TxSize`). A field with reserved values (BDSEL,
KIND, MODE, EOB, POS) is kept as its bits: a word with a reserved value still matches its row (30_encoding R114,
R115) and is refused by the command's own checks.
-/

namespace Sys2Proof

/-- The transform size, TXSZ (30_encoding R104). -/
inductive TxSize where
  | s4 | s8 | s16 | s32
  deriving DecidableEq, Repr

/-- The side `N = 4 << TXSZ` of a block (30_encoding R104, R113). -/
def TxSize.side : TxSize → Nat
  | .s4 => 4
  | .s8 => 8
  | .s16 => 16
  | .s32 => 32

/-- The number of cells `N²` of a block. -/
def TxSize.area (sz : TxSize) : Nat := sz.side * sz.side

/-- The bit depth of a command (00_scope R3, 30_encoding R106). -/
inductive BitDepth where
  | d8 | d10 | d12
  deriving DecidableEq, Repr

/-- The bit depth as a number of bits. -/
def BitDepth.bits : BitDepth → Nat
  | .d8 => 8
  | .d10 => 10
  | .d12 => 12

/-- The 16 transform types, vertical transform named first (30_encoding R105, 42_dispatch R201). -/
inductive TxType where
  | dctDct | adstDct | dctAdst | adstAdst
  | flipadstDct | dctFlipadst | flipadstFlipadst | adstFlipadst | flipadstAdst
  | idtx | vDct | hDct | vAdst | hAdst | vFlipadst | hFlipadst
  deriving DecidableEq, Repr

/-- The types that exist only when `EXT_TX` = 1: TXTYPE 4 to 15 (30_encoding R105). -/
def TxType.extended : TxType → Bool
  | .dctDct | .adstDct | .dctAdst | .adstAdst => false
  | _ => true

/-- The 13 one-dimensional kernels, KID 0 to 12 (30_encoding R108). -/
inductive KernelId where
  | idct4 | idct8 | idct16 | idct32
  | iadst4 | iadst8 | iadst16 | ihalfright32
  | iidtx4 | iidtx8 | iidtx16 | iidtx32
  | iwht4
  deriving DecidableEq, Repr

/-- The length N of a kernel's vectors (30_encoding R108). -/
def KernelId.size : KernelId → Nat
  | .idct4 | .iadst4 | .iidtx4 | .iwht4 => 4
  | .idct8 | .iadst8 | .iidtx8 => 8
  | .idct16 | .iadst16 | .iidtx16 => 16
  | .idct32 | .ihalfright32 | .iidtx32 => 32

/-- The kinds of scan (30_encoding R109). -/
inductive ScanKind where
  | default | row | col
  deriving DecidableEq, Repr

/-- The ten intra prediction modes (30_encoding R110). -/
inductive IntraMode where
  | dcPred | vPred | hPred | d45Pred | d135Pred | d117Pred | d153Pred | d207Pred | d63Pred | tmPred
  deriving DecidableEq, Repr

/-- The causes of ContractViolation, the engine's one exception (60_exceptions R302). -/
inductive Cause where
  | illegalCommand | badTxType | badBitDepth | losslessIllegal | eobRange | tablesNotReady | badKernel
  | badScanKind | posRange | badIntraMode | unwritten | tokenRange | dstRange
  deriving DecidableEq, Repr

/-- The commands. `bdsel`, `eob`, `mode`, `kind` and `pos` are the fields of the same names (30_encoding R102, R103,
R110, R111); `chroma`, `isInter` and `lossless` are the one-bit fields PLANE, IS_INTER and LOSSLESS. -/
inductive Instr where
  /-- RECON.DCT_DCT (42_dispatch R230). -/
  | reconDctDct (sz : TxSize) (bdsel : BitVec 2) (eob : BitVec 11)
  /-- RECON.ADST_DCT (42_dispatch R231). -/
  | reconAdstDct (sz : TxSize) (bdsel : BitVec 2) (eob : BitVec 11)
  /-- RECON.DCT_ADST (42_dispatch R232). -/
  | reconDctAdst (sz : TxSize) (bdsel : BitVec 2) (eob : BitVec 11)
  /-- RECON.ADST_ADST (42_dispatch R233). -/
  | reconAdstAdst (sz : TxSize) (bdsel : BitVec 2) (eob : BitVec 11)
  /-- RECON.FLIPADST_DCT (42_dispatch R234). -/
  | reconFlipadstDct (sz : TxSize) (bdsel : BitVec 2) (eob : BitVec 11)
  /-- RECON.DCT_FLIPADST (42_dispatch R235). -/
  | reconDctFlipadst (sz : TxSize) (bdsel : BitVec 2) (eob : BitVec 11)
  /-- RECON.FLIPADST_FLIPADST (42_dispatch R236). -/
  | reconFlipadstFlipadst (sz : TxSize) (bdsel : BitVec 2) (eob : BitVec 11)
  /-- RECON.ADST_FLIPADST (42_dispatch R237). -/
  | reconAdstFlipadst (sz : TxSize) (bdsel : BitVec 2) (eob : BitVec 11)
  /-- RECON.FLIPADST_ADST (42_dispatch R238). -/
  | reconFlipadstAdst (sz : TxSize) (bdsel : BitVec 2) (eob : BitVec 11)
  /-- RECON.IDTX (42_dispatch R239). -/
  | reconIdtx (sz : TxSize) (bdsel : BitVec 2) (eob : BitVec 11)
  /-- RECON.V_DCT (42_dispatch R240). -/
  | reconVDct (sz : TxSize) (bdsel : BitVec 2) (eob : BitVec 11)
  /-- RECON.H_DCT (42_dispatch R241). -/
  | reconHDct (sz : TxSize) (bdsel : BitVec 2) (eob : BitVec 11)
  /-- RECON.V_ADST (42_dispatch R242). -/
  | reconVAdst (sz : TxSize) (bdsel : BitVec 2) (eob : BitVec 11)
  /-- RECON.H_ADST (42_dispatch R243). -/
  | reconHAdst (sz : TxSize) (bdsel : BitVec 2) (eob : BitVec 11)
  /-- RECON.V_FLIPADST (42_dispatch R244). -/
  | reconVFlipadst (sz : TxSize) (bdsel : BitVec 2) (eob : BitVec 11)
  /-- RECON.H_FLIPADST (42_dispatch R245). -/
  | reconHFlipadst (sz : TxSize) (bdsel : BitVec 2) (eob : BitVec 11)
  /-- RECON.WHT, the lossless 4x4 command (42_dispatch R226). -/
  | reconWht (bdsel : BitVec 2) (eob : BitVec 11)
  /-- KERN1D.IDCT4 (41_kernels R146). -/
  | kernIdct4 (bdsel : BitVec 2)
  /-- KERN1D.IDCT8 (41_kernels R147). -/
  | kernIdct8 (bdsel : BitVec 2)
  /-- KERN1D.IDCT16 (41_kernels R148). -/
  | kernIdct16 (bdsel : BitVec 2)
  /-- KERN1D.IDCT32 (41_kernels R149). -/
  | kernIdct32 (bdsel : BitVec 2)
  /-- KERN1D.IADST4 (41_kernels R150). -/
  | kernIadst4 (bdsel : BitVec 2)
  /-- KERN1D.IADST8 (41_kernels R151). -/
  | kernIadst8 (bdsel : BitVec 2)
  /-- KERN1D.IADST16 (41_kernels R152). -/
  | kernIadst16 (bdsel : BitVec 2)
  /-- KERN1D.IHALFRIGHT32 (41_kernels R153). -/
  | kernIhalfright32 (bdsel : BitVec 2)
  /-- KERN1D.IIDTX4 (41_kernels R154). -/
  | kernIidtx4 (bdsel : BitVec 2)
  /-- KERN1D.IIDTX8 (41_kernels R155). -/
  | kernIidtx8 (bdsel : BitVec 2)
  /-- KERN1D.IIDTX16 (41_kernels R156). -/
  | kernIidtx16 (bdsel : BitVec 2)
  /-- KERN1D.IIDTX32 (41_kernels R157). -/
  | kernIidtx32 (bdsel : BitVec 2)
  /-- KERN1D.IWHT4 (41_kernels R158). -/
  | kernIwht4 (bdsel : BitVec 2)
  /-- INIT (43_scan_context R263). -/
  | init
  /-- GETSCAN (43_scan_context R268). -/
  | getscan (sz : TxSize) (chroma isInter lossless : Bool) (mode : BitVec 4)
  /-- SCANLOOKUP (43_scan_context R270). -/
  | scanlookup (sz : TxSize) (kind : BitVec 2) (pos : BitVec 11)
  /-- CTX (43_scan_context R271). -/
  | ctx (sz : TxSize) (kind : BitVec 2) (pos : BitVec 11)
  deriving DecidableEq, Repr

/-- The RECON command of a transform type: the 16 rows RECON.<TxType> (42_dispatch R200). -/
def TxType.instr (t : TxType) (sz : TxSize) (bdsel : BitVec 2) (eob : BitVec 11) : Instr :=
  match t with
  | .dctDct => .reconDctDct sz bdsel eob
  | .adstDct => .reconAdstDct sz bdsel eob
  | .dctAdst => .reconDctAdst sz bdsel eob
  | .adstAdst => .reconAdstAdst sz bdsel eob
  | .flipadstDct => .reconFlipadstDct sz bdsel eob
  | .dctFlipadst => .reconDctFlipadst sz bdsel eob
  | .flipadstFlipadst => .reconFlipadstFlipadst sz bdsel eob
  | .adstFlipadst => .reconAdstFlipadst sz bdsel eob
  | .flipadstAdst => .reconFlipadstAdst sz bdsel eob
  | .idtx => .reconIdtx sz bdsel eob
  | .vDct => .reconVDct sz bdsel eob
  | .hDct => .reconHDct sz bdsel eob
  | .vAdst => .reconVAdst sz bdsel eob
  | .hAdst => .reconHAdst sz bdsel eob
  | .vFlipadst => .reconVFlipadst sz bdsel eob
  | .hFlipadst => .reconHFlipadst sz bdsel eob

/-- The KERN1D command of a kernel: the 13 rows KERN1D.<kernel> (41_kernels R144). -/
def KernelId.instr (k : KernelId) (bdsel : BitVec 2) : Instr :=
  match k with
  | .idct4 => .kernIdct4 bdsel
  | .idct8 => .kernIdct8 bdsel
  | .idct16 => .kernIdct16 bdsel
  | .idct32 => .kernIdct32 bdsel
  | .iadst4 => .kernIadst4 bdsel
  | .iadst8 => .kernIadst8 bdsel
  | .iadst16 => .kernIadst16 bdsel
  | .ihalfright32 => .kernIhalfright32 bdsel
  | .iidtx4 => .kernIidtx4 bdsel
  | .iidtx8 => .kernIidtx8 bdsel
  | .iidtx16 => .kernIidtx16 bdsel
  | .iidtx32 => .kernIidtx32 bdsel
  | .iwht4 => .kernIwht4 bdsel

end Sys2Proof
end

