-- ==== Sys2Proof/Config.lean ====
section
/-!
DEFINITION. What one engine instance fixes (the parameters of 00_scope R9) and the free values.

The parameters are the structure `Params` and the tables of SCAN_ROM. A state of the machine carries them, so a
statement over all states holds for all their values. `Config.params` and `Config.scanRom` are the ones the state
after reset carries.
-/

namespace Sys2Proof

/-- The width of the wrap W at bit depth 10 and 12, `HBD_WRAP_BITS` (00_scope R9, R14): 32, or bd + 8. -/
inductive HbdWrap where
  | fixed32 | bdPlus8
  deriving DecidableEq, Repr

/-- `INTRA_SCAN_MAP`: the scan kind of each intra mode (00_scope R9, 43_scan_context R266). -/
structure IntraScanMap where
  dcPred : ScanKind
  vPred : ScanKind
  hPred : ScanKind
  d45Pred : ScanKind
  d135Pred : ScanKind
  d117Pred : ScanKind
  d153Pred : ScanKind
  d207Pred : ScanKind
  d63Pred : ScanKind
  tmPred : ScanKind
  deriving DecidableEq, Repr

/-- The kind a map gives a mode. -/
def IntraScanMap.kind (m : IntraScanMap) : IntraMode → ScanKind
  | .dcPred => m.dcPred
  | .vPred => m.vPred
  | .hPred => m.hPred
  | .d45Pred => m.d45Pred
  | .d135Pred => m.d135Pred
  | .d117Pred => m.d117Pred
  | .d153Pred => m.d153Pred
  | .d207Pred => m.d207Pred
  | .d63Pred => m.d63Pred
  | .tmPred => m.tmPred

/-- The default map of 43_scan_context R266. -/
def IntraScanMap.standard : IntraScanMap where
  dcPred := .default
  vPred := .col
  hPred := .row
  d45Pred := .default
  d135Pred := .default
  d117Pred := .col
  d153Pred := .row
  d207Pred := .row
  d63Pred := .col
  tmPred := .default

/-- The implementation parameters of one engine instance (00_scope R9). A value of this type carries the proof of the
bound R9 sets on `PIX_SIZE`, so no state has a larger pixel space. SCAN_ROM is held beside it, in the state. -/
structure Params where
  /-- `EXT_TX`: TXTYPE 4 to 15 exist. -/
  extTx : Bool
  /-- `HBD`: bit depths 10 and 12 are supported. -/
  hbd : Bool
  /-- `HBD_WRAP_BITS`. -/
  hbdWrap : HbdWrap
  /-- `PIX_SIZE`: the number of sample cells of PIX. -/
  pixSize : Nat
  /-- `PIX_SIZE` is at most 2^32. -/
  pixSize_le : pixSize ≤ 2 ^ 32
  /-- `INTRA_SCAN_MAP`. -/
  intraMap : IntraScanMap
  deriving DecidableEq, Repr

/-- The ten (size, kind) pairs for which SCAN_ROM holds a table (10_state R47). -/
inductive ScanId where
  | d4 | r4 | c4 | d8 | r8 | c8 | d16 | r16 | c16 | d32
  deriving DecidableEq, Repr

/-- The transform size of a table. -/
def ScanId.size : ScanId → TxSize
  | .d4 | .r4 | .c4 => .s4
  | .d8 | .r8 | .c8 => .s8
  | .d16 | .r16 | .c16 => .s16
  | .d32 => .s32

/-- The kind of a table. -/
def ScanId.kind : ScanId → ScanKind
  | .d4 | .d8 | .d16 | .d32 => .default
  | .r4 | .r8 | .r16 => .row
  | .c4 | .c8 | .c16 => .col

/-- The table of a size and kind; a 32x32 block has only the default scan (30_encoding R109). -/
def ScanId.of : TxSize → ScanKind → Option ScanId
  | .s4, .default => some .d4
  | .s4, .row => some .r4
  | .s4, .col => some .c4
  | .s8, .default => some .d8
  | .s8, .row => some .r8
  | .s8, .col => some .c8
  | .s16, .default => some .d16
  | .s16, .row => some .r16
  | .s16, .col => some .c16
  | .s32, .default => some .d32
  | .s32, .row => none
  | .s32, .col => none

/-- One value for each of the ten pairs. -/
structure PerScan (α : Type) where
  d4 : α
  r4 : α
  c4 : α
  d8 : α
  r8 : α
  c8 : α
  d16 : α
  r16 : α
  c16 : α
  d32 : α
  deriving DecidableEq, Repr

/-- The value of one pair. -/
def PerScan.get {α : Type} (t : PerScan α) : ScanId → α
  | .d4 => t.d4
  | .r4 => t.r4
  | .c4 => t.c4
  | .d8 => t.d8
  | .r8 => t.r8
  | .c8 => t.c8
  | .d16 => t.d16
  | .r16 => t.r16
  | .c16 => t.c16
  | .d32 => t.d32

/-- The ten values of a function of the pair. -/
def PerScan.ofFn {α : Type} (f : ScanId → α) : PerScan α where
  d4 := f .d4
  r4 := f .r4
  c4 := f .c4
  d8 := f .d8
  r8 := f .r8
  c8 := f .c8
  d16 := f .d16
  r16 := f .r16
  c16 := f .c16
  d32 := f .d32

/-- SCAN_ROM: for each pair, the raster index at each scan position (10_state R47). -/
abbrev ScanRom := PerScan (List Nat)

/-- The raster cells whose scan positions are the neighbours of raster cell `rc` in a block of side `n` (43_scan_context
R264): above and left, or only the one along the scan's own axis, or the one that exists at an edge. -/
def ScanTable.neededCells (kind : ScanKind) (n rc : Nat) : List Nat :=
  if 0 < rc / n then
    if 0 < rc % n then
      match kind with
      | .col => [rc - n]
      | .row => [rc - 1]
      | .default => [rc - n, rc - 1]
    else [rc - n]
  else if 0 < rc % n then [rc - 1]
  else []

/-- Causality of a scan (43_scan_context R262 (3)): every neighbour cell of an entry stands earlier in the scan. `seen`
holds the entries that stand before the list. -/
def ScanTable.causal (kind : ScanKind) (n : Nat) (seen : List Nat) : List Nat → Bool
  | [] => true
  | rc :: rest =>
    (ScanTable.neededCells kind n rc).all (fun nb => seen.contains nb)
      && ScanTable.causal kind n (rc :: seen) rest

/-- K(N), the threshold of the partial DCT_DCT path (00_scope R20, 42_dispatch R211); none at 4x4. -/
def TxSize.partialLimit : TxSize → Option Nat
  | .s4 => none
  | .s8 => some 12
  | .s16 => some 10
  | .s32 => some 34

/-- The side of the partial path's zone (42_dispatch R211); the whole block at 4x4. -/
def TxSize.partialSide : TxSize → Nat
  | .s4 => 4
  | .s8 => 4
  | .s16 => 4
  | .s32 => 8

/-- The zone property (43_scan_context R262 (4)): the first K(N) entries of a DEFAULT table lie in the zone of
42_dispatch R211. -/
def ScanTable.inZone (id : ScanId) (scan : List Nat) : Prop :=
  match id.kind, id.size.partialLimit with
  | .default, some k =>
    ∀ rc ∈ scan.take k, rc / id.size.side < id.size.partialSide ∧ rc % id.size.side < id.size.partialSide
  | _, _ => True

/-- What every table of SCAN_ROM satisfies (43_scan_context R262 (1) to (4)). -/
structure ScanTable.Ok (id : ScanId) (scan : List Nat) : Prop where
  perm : scan.Perm (List.range id.size.area)
  dcFirst : scan.head? = some 0
  causal : ScanTable.causal id.kind id.size.side [] scan = true
  zone : ScanTable.inZone id scan

/-- The 4x4 DEFAULT table (43_scan_context R261). -/
def ScanTable.default4 : List Nat := [0, 4, 1, 5, 8, 2, 12, 9, 3, 6, 13, 10, 7, 14, 11, 15]

/-- The 4x4 ROW table (43_scan_context R261). -/
def ScanTable.row4 : List Nat := [0, 1, 4, 2, 5, 3, 6, 8, 9, 7, 12, 10, 13, 11, 14, 15]

/-- The 4x4 COL table (43_scan_context R261). -/
def ScanTable.col4 : List Nat := [0, 4, 8, 1, 12, 5, 9, 2, 13, 6, 10, 3, 7, 14, 11, 15]

/-- A SCAN_ROM the spec allows: the 4x4 tables are those of R261 and every table satisfies R262. -/
structure ScanRomOk (rom : ScanRom) : Prop where
  d4 : rom.d4 = ScanTable.default4
  r4 : rom.r4 = ScanTable.row4
  c4 : rom.c4 = ScanTable.col4
  tables : ∀ id, ScanTable.Ok id (rom.get id)

/-- A scan that satisfies R262 for every kind: first the cells of the `side` x `side` corner in raster order, then the
others in raster order. It is no table of the source: it only stands where `Config.openRom` names none. -/
def ScanTable.cornerFirst (n side : Nat) : List Nat :=
  (List.range (n * n)).filter (fun rc => rc / n < side && rc % n < side)
    ++ (List.range (n * n)).filter (fun rc => !(rc / n < side && rc % n < side))

/-- The SCAN_ROM made of corner-first scans above 4x4. -/
def ScanRom.cornerFirst : ScanRom where
  d4 := ScanTable.default4
  r4 := ScanTable.row4
  c4 := ScanTable.col4
  d8 := ScanTable.cornerFirst 8 4
  r8 := ScanTable.cornerFirst 8 4
  c8 := ScanTable.cornerFirst 8 4
  d16 := ScanTable.cornerFirst 16 4
  r16 := ScanTable.cornerFirst 16 4
  c16 := ScanTable.cornerFirst 16 4
  d32 := ScanTable.cornerFirst 32 8

/-- A SCAN_ROM together with the proof that the spec allows it. -/
structure ValidRom where
  rom : ScanRom
  ok : ScanRomOk rom

namespace Config

/-- DESIGN CHOICE (safe), log entry 4: the open part of SCAN_ROM (43_scan_context R261, 92 D15). It has no body: nothing
is known of it but that, where it names a SCAN_ROM, the spec allows that SCAN_ROM. -/
opaque openRom : Option ValidRom

/-- The SCAN_ROM the open constant names, or the corner-first one where it names none. Either satisfies R262. -/
def chosenRom : ScanRom :=
  match openRom with
  | some r => r.rom
  | none => ScanRom.cornerFirst

/-- The SCAN_ROM of the state after reset: the 4x4 tables of 43_scan_context R261, and open tables above. -/
def scanRom : ScanRom where
  d4 := ScanTable.default4
  r4 := ScanTable.row4
  c4 := ScanTable.col4
  d8 := chosenRom.d8
  r8 := chosenRom.r8
  c8 := chosenRom.c8
  d16 := chosenRom.d16
  r16 := chosenRom.r16
  c16 := chosenRom.c16
  d32 := chosenRom.d32

/-- The parameters of the state after reset: the spec's defaults (00_scope R9; DESIGN CHOICE, log entry 10), and 4096
sample cells (DESIGN CHOICE, unsafe, log entry 3: PIX_SIZE is OPEN; every vector of 95_test_vectors has 4096). -/
def params : Params where
  extTx := true
  hbd := true
  hbdWrap := .fixed32
  pixSize := 4096
  pixSize_le := by decide
  intraMap := IntraScanMap.standard

/-- DESIGN CHOICE (safe), log entry 5: the free values behind `draw` (00_scope R16). The k-th value drawn is `freeSample k`,
cut to the width of the set drawn from. It has no body, so nothing can be proved of a drawn value but that it lies in
its set. -/
opaque freeSample : Nat → Sample

end Config

end Sys2Proof
end

