-- ==== Sys2Proof/WellFormed.lean ====
section
/-!
DEFINITION. Which commands are well-formed for an engine with given parameters: those whose fields pass the
field-value checks of 30_encoding R115. A command that is not well-formed still has a meaning: it raises
ContractViolation with the cause of its first failing check.
-/

namespace Sys2Proof

/-- BDSEL names a bit depth the engine supports (30_encoding R106). -/
def bdselOk (p : Params) (bdsel : BitVec 2) : Bool :=
  bdsel != 3#2 && (p.hbd || bdsel == 0#2)

/-- EOB is at most N² (30_encoding R107). -/
def eobOk (sz : TxSize) (eob : BitVec 11) : Bool := decide (eob.toNat ≤ sz.area)

/-- KIND names a scan that exists at the size (30_encoding R109). -/
def kindOk (sz : TxSize) (kind : BitVec 2) : Bool :=
  kind != 3#2 && (kind == 0#2 || sz != .s32)

/-- POS is below N² (30_encoding R111). -/
def posOk (sz : TxSize) (pos : BitVec 11) : Bool := decide (pos.toNat < sz.area)

/-- The fields of a RECON of type `t` pass (30_encoding R115, F_RECON). -/
def reconOk (p : Params) (t : TxType) (sz : TxSize) (bdsel : BitVec 2) (eob : BitVec 11) : Bool :=
  (p.extTx || !t.extended) && bdselOk p bdsel && eobOk sz eob

/-- The field-value checks of 30_encoding R115 for every command. -/
def Instr.WellFormed (p : Params) : Instr → Bool
  | .reconDctDct sz bdsel eob => reconOk p .dctDct sz bdsel eob
  | .reconAdstDct sz bdsel eob => reconOk p .adstDct sz bdsel eob
  | .reconDctAdst sz bdsel eob => reconOk p .dctAdst sz bdsel eob
  | .reconAdstAdst sz bdsel eob => reconOk p .adstAdst sz bdsel eob
  | .reconFlipadstDct sz bdsel eob => reconOk p .flipadstDct sz bdsel eob
  | .reconDctFlipadst sz bdsel eob => reconOk p .dctFlipadst sz bdsel eob
  | .reconFlipadstFlipadst sz bdsel eob => reconOk p .flipadstFlipadst sz bdsel eob
  | .reconAdstFlipadst sz bdsel eob => reconOk p .adstFlipadst sz bdsel eob
  | .reconFlipadstAdst sz bdsel eob => reconOk p .flipadstAdst sz bdsel eob
  | .reconIdtx sz bdsel eob => reconOk p .idtx sz bdsel eob
  | .reconVDct sz bdsel eob => reconOk p .vDct sz bdsel eob
  | .reconHDct sz bdsel eob => reconOk p .hDct sz bdsel eob
  | .reconVAdst sz bdsel eob => reconOk p .vAdst sz bdsel eob
  | .reconHAdst sz bdsel eob => reconOk p .hAdst sz bdsel eob
  | .reconVFlipadst sz bdsel eob => reconOk p .vFlipadst sz bdsel eob
  | .reconHFlipadst sz bdsel eob => reconOk p .hFlipadst sz bdsel eob
  | .reconWht bdsel eob => bdselOk p bdsel && eobOk .s4 eob
  | .kernIdct4 bdsel | .kernIdct8 bdsel | .kernIdct16 bdsel | .kernIdct32 bdsel
  | .kernIadst4 bdsel | .kernIadst8 bdsel | .kernIadst16 bdsel | .kernIhalfright32 bdsel
  | .kernIidtx4 bdsel | .kernIidtx8 bdsel | .kernIidtx16 bdsel | .kernIidtx32 bdsel
  | .kernIwht4 bdsel => bdselOk p bdsel
  | .init => true
  | .getscan sz _ isInter lossless mode =>
    (!lossless || sz == .s4) && (isInter || decide (mode.toNat < 10))
  | .scanlookup sz kind pos => kindOk sz kind && posOk sz pos
  | .ctx sz kind pos => kindOk sz kind && posOk sz pos

end Sys2Proof
end

