-- ==== Sys2Proof/Decode.lean ====
section
/-!
DEFINITION. Decoding a command word (30_encoding R101 to R115), total on all 2^32 words and refusing by the cause the
spec names, and the encoder written from the same formats.

The decoder applies checks (1) and (2) of R114 and those field-value checks of R115 whose failing words match no row
of the opcode table (BAD_TXTYPE, LOSSLESS_ILLEGAL in F_RECON, BAD_KERNEL). The other field-value checks apply to words
that match a row; the command's own meaning makes them, in R115's order (log entry 11).
-/

namespace Sys2Proof

/-- Bits `lo + len - 1` down to `lo` of a command word (00_scope R10, 30_encoding R113). -/
def field (w : Word) (lo len : Nat) : BitVec len := w.extractLsb' lo len

/-- TXSZ read as a size (30_encoding R104). -/
def TxSize.ofField (f : BitVec 2) : TxSize :=
  match f.toNat with
  | 0 => .s4
  | 1 => .s8
  | 2 => .s16
  | _ => .s32

/-- A size written as TXSZ (30_encoding R104). -/
def TxSize.toField : TxSize → BitVec 2
  | .s4 => 0#2
  | .s8 => 1#2
  | .s16 => 2#2
  | .s32 => 3#2

/-- TXTYPE read as a transform type (30_encoding R105). -/
def TxType.ofField (f : BitVec 4) : TxType :=
  match f.toNat with
  | 0 => .dctDct
  | 1 => .adstDct
  | 2 => .dctAdst
  | 3 => .adstAdst
  | 4 => .flipadstDct
  | 5 => .dctFlipadst
  | 6 => .flipadstFlipadst
  | 7 => .adstFlipadst
  | 8 => .flipadstAdst
  | 9 => .idtx
  | 10 => .vDct
  | 11 => .hDct
  | 12 => .vAdst
  | 13 => .hAdst
  | 14 => .vFlipadst
  | _ => .hFlipadst

/-- A transform type written as TXTYPE (30_encoding R105). -/
def TxType.toField : TxType → BitVec 4
  | .dctDct => 0#4
  | .adstDct => 1#4
  | .dctAdst => 2#4
  | .adstAdst => 3#4
  | .flipadstDct => 4#4
  | .dctFlipadst => 5#4
  | .flipadstFlipadst => 6#4
  | .adstFlipadst => 7#4
  | .flipadstAdst => 8#4
  | .idtx => 9#4
  | .vDct => 10#4
  | .hDct => 11#4
  | .vAdst => 12#4
  | .hAdst => 13#4
  | .vFlipadst => 14#4
  | .hFlipadst => 15#4

/-- KID read as a kernel; 13 to 31 name none (30_encoding R108, 41_kernels R159). -/
def KernelId.ofField (f : BitVec 5) : Option KernelId :=
  match f.toNat with
  | 0 => some .idct4
  | 1 => some .idct8
  | 2 => some .idct16
  | 3 => some .idct32
  | 4 => some .iadst4
  | 5 => some .iadst8
  | 6 => some .iadst16
  | 7 => some .ihalfright32
  | 8 => some .iidtx4
  | 9 => some .iidtx8
  | 10 => some .iidtx16
  | 11 => some .iidtx32
  | 12 => some .iwht4
  | _ => none

/-- A kernel written as KID (30_encoding R108). -/
def KernelId.toField : KernelId → BitVec 5
  | .idct4 => 0#5
  | .idct8 => 1#5
  | .idct16 => 2#5
  | .idct32 => 3#5
  | .iadst4 => 4#5
  | .iadst8 => 5#5
  | .iadst16 => 6#5
  | .ihalfright32 => 7#5
  | .iidtx4 => 8#5
  | .iidtx8 => 9#5
  | .iidtx16 => 10#5
  | .iidtx32 => 11#5
  | .iwht4 => 12#5

/-- BDSEL read as a bit depth; 3 is reserved (30_encoding R106). -/
def BitDepth.ofField (f : BitVec 2) : Option BitDepth :=
  match f.toNat with
  | 0 => some .d8
  | 1 => some .d10
  | 2 => some .d12
  | _ => none

/-- KIND read as a scan kind; 3 is reserved (30_encoding R109). -/
def ScanKind.ofField (f : BitVec 2) : Option ScanKind :=
  match f.toNat with
  | 0 => some .default
  | 1 => some .row
  | 2 => some .col
  | _ => none

/-- A scan kind written as KIND (30_encoding R109). -/
def ScanKind.toField : ScanKind → BitVec 2
  | .default => 0#2
  | .row => 1#2
  | .col => 2#2

/-- MODE read as an intra mode; 10 to 15 are reserved (30_encoding R110). -/
def IntraMode.ofField (f : BitVec 4) : Option IntraMode :=
  match f.toNat with
  | 0 => some .dcPred
  | 1 => some .vPred
  | 2 => some .hPred
  | 3 => some .d45Pred
  | 4 => some .d135Pred
  | 5 => some .d117Pred
  | 6 => some .d153Pred
  | 7 => some .d207Pred
  | 8 => some .d63Pred
  | 9 => some .tmPred
  | _ => none

/-- An intra mode written as MODE (30_encoding R110). -/
def IntraMode.toField : IntraMode → BitVec 4
  | .dcPred => 0#4
  | .vPred => 1#4
  | .hPred => 2#4
  | .d45Pred => 3#4
  | .d135Pred => 4#4
  | .d117Pred => 5#4
  | .d153Pred => 6#4
  | .d207Pred => 7#4
  | .d63Pred => 8#4
  | .tmPred => 9#4

/-- Format F_RECON (30_encoding R102): reserved bits 31:24, then TXTYPE, then LOSSLESS (R115). -/
def decodeRecon (p : Params) (w : Word) : Except Cause Instr :=
  let sz := TxSize.ofField (field w 4 2)
  let t := TxType.ofField (field w 6 4)
  let bdsel := field w 11 2
  let eob := field w 13 11
  if field w 24 8 ≠ 0#8 then .error .illegalCommand
  else if t.extended && !p.extTx then .error .badTxType
  else if field w 10 1 = 1#1 then
    if t = .dctDct ∧ sz = .s4 then .ok (.reconWht bdsel eob) else .error .losslessIllegal
  else .ok (t.instr sz bdsel eob)

/-- Format F_KERN (30_encoding R103): reserved bits 31:13 and 10:9, then KID (R115). -/
def decodeKern (w : Word) : Except Cause Instr :=
  if field w 13 19 ≠ 0#19 ∨ field w 9 2 ≠ 0#2 then .error .illegalCommand
  else
    match KernelId.ofField (field w 4 5) with
    | some k => .ok (k.instr (field w 11 2))
    | none => .error .badKernel

/-- Format F_NONE (30_encoding R112): reserved bits 31:4. -/
def decodeInit (w : Word) : Except Cause Instr :=
  if field w 4 28 ≠ 0#28 then .error .illegalCommand else .ok .init

/-- Format F_GETSCAN (30_encoding R110): reserved bits 31:13. -/
def decodeGetscan (w : Word) : Except Cause Instr :=
  if field w 13 19 ≠ 0#19 then .error .illegalCommand
  else
    .ok (.getscan (TxSize.ofField (field w 4 2)) (w.getLsbD 6) (w.getLsbD 7) (w.getLsbD 8) (field w 9 4))

/-- Format F_SCANPOS (30_encoding R111): reserved bits 31:19. -/
def decodeScanpos (w : Word) (mk : TxSize → BitVec 2 → BitVec 11 → Instr) : Except Cause Instr :=
  if field w 19 13 ≠ 0#13 then .error .illegalCommand
  else .ok (mk (TxSize.ofField (field w 4 2)) (field w 6 2) (field w 8 11))

/-- The command a word names on an engine with parameters `p`, or the cause it raises (30_encoding R101, R114). -/
def decode (p : Params) (w : Word) : Except Cause Instr :=
  match (field w 0 4).toNat with
  | 1 => decodeRecon p w
  | 2 => decodeKern w
  | 3 => decodeInit w
  | 4 => decodeGetscan w
  | 5 => decodeScanpos w .scanlookup
  | 6 => decodeScanpos w .ctx
  | _ => .error .illegalCommand

/-- The F_RECON word of given fields (30_encoding R102): `00000000 EOB BDSEL LOSSLESS TXTYPE TXSZ 0001`. -/
def encodeRecon (eob : BitVec 11) (bdsel : BitVec 2) (lossless : BitVec 1) (t : TxType) (sz : TxSize) : Word :=
  0#8 ++ eob ++ bdsel ++ lossless ++ t.toField ++ sz.toField ++ 1#4

/-- The F_KERN word of given fields (30_encoding R103): 19 zeros, BDSEL, `00`, KID, `0010`. -/
def encodeKern (k : KernelId) (bdsel : BitVec 2) : Word :=
  0#19 ++ bdsel ++ 0#2 ++ k.toField ++ 2#4

/-- The F_GETSCAN word of given fields (30_encoding R110): 19 zeros, MODE, LOSSLESS, IS_INTER, PLANE, TXSZ, `0100`. -/
def encodeGetscan (sz : TxSize) (chroma isInter lossless : Bool) (mode : BitVec 4) : Word :=
  0#19 ++ mode ++ BitVec.ofBool lossless ++ BitVec.ofBool isInter ++ BitVec.ofBool chroma ++ sz.toField ++ 4#4

/-- The F_SCANPOS word of given fields (30_encoding R111): 13 zeros, POS, KIND, TXSZ, OPC. -/
def encodeScanpos (opc : BitVec 4) (sz : TxSize) (kind : BitVec 2) (pos : BitVec 11) : Word :=
  0#13 ++ pos ++ kind ++ sz.toField ++ opc

/-- The word of a command (30_encoding R102, R103, R110 to R112). -/
def encode : Instr → Word
  | .reconDctDct sz bdsel eob => encodeRecon eob bdsel 0#1 .dctDct sz
  | .reconAdstDct sz bdsel eob => encodeRecon eob bdsel 0#1 .adstDct sz
  | .reconDctAdst sz bdsel eob => encodeRecon eob bdsel 0#1 .dctAdst sz
  | .reconAdstAdst sz bdsel eob => encodeRecon eob bdsel 0#1 .adstAdst sz
  | .reconFlipadstDct sz bdsel eob => encodeRecon eob bdsel 0#1 .flipadstDct sz
  | .reconDctFlipadst sz bdsel eob => encodeRecon eob bdsel 0#1 .dctFlipadst sz
  | .reconFlipadstFlipadst sz bdsel eob => encodeRecon eob bdsel 0#1 .flipadstFlipadst sz
  | .reconAdstFlipadst sz bdsel eob => encodeRecon eob bdsel 0#1 .adstFlipadst sz
  | .reconFlipadstAdst sz bdsel eob => encodeRecon eob bdsel 0#1 .flipadstAdst sz
  | .reconIdtx sz bdsel eob => encodeRecon eob bdsel 0#1 .idtx sz
  | .reconVDct sz bdsel eob => encodeRecon eob bdsel 0#1 .vDct sz
  | .reconHDct sz bdsel eob => encodeRecon eob bdsel 0#1 .hDct sz
  | .reconVAdst sz bdsel eob => encodeRecon eob bdsel 0#1 .vAdst sz
  | .reconHAdst sz bdsel eob => encodeRecon eob bdsel 0#1 .hAdst sz
  | .reconVFlipadst sz bdsel eob => encodeRecon eob bdsel 0#1 .vFlipadst sz
  | .reconHFlipadst sz bdsel eob => encodeRecon eob bdsel 0#1 .hFlipadst sz
  | .reconWht bdsel eob => encodeRecon eob bdsel 1#1 .dctDct .s4
  | .kernIdct4 bdsel => encodeKern .idct4 bdsel
  | .kernIdct8 bdsel => encodeKern .idct8 bdsel
  | .kernIdct16 bdsel => encodeKern .idct16 bdsel
  | .kernIdct32 bdsel => encodeKern .idct32 bdsel
  | .kernIadst4 bdsel => encodeKern .iadst4 bdsel
  | .kernIadst8 bdsel => encodeKern .iadst8 bdsel
  | .kernIadst16 bdsel => encodeKern .iadst16 bdsel
  | .kernIhalfright32 bdsel => encodeKern .ihalfright32 bdsel
  | .kernIidtx4 bdsel => encodeKern .iidtx4 bdsel
  | .kernIidtx8 bdsel => encodeKern .iidtx8 bdsel
  | .kernIidtx16 bdsel => encodeKern .iidtx16 bdsel
  | .kernIidtx32 bdsel => encodeKern .iidtx32 bdsel
  | .kernIwht4 bdsel => encodeKern .iwht4 bdsel
  | .init => 0#28 ++ 3#4
  | .getscan sz chroma isInter lossless mode => encodeGetscan sz chroma isInter lossless mode
  | .scanlookup sz kind pos => encodeScanpos 5#4 sz kind pos
  | .ctx sz kind pos => encodeScanpos 6#4 sz kind pos

/-- A row of the opcode table as its mask and match (30_encoding R114; spec/opcode_table.json). -/
abbrev OpRow := Word × Word

/-- A word matches a row: `(w & mask) == match` (30_encoding R114). -/
def OpRow.matches (r : OpRow) (w : Word) : Bool := w &&& r.1 == r.2

/-- The F_RECON row of a transform type: mask 0xFF0007CF (spec/opcode_table.json). -/
def opRowRecon (t : TxType) : OpRow := (0xFF0007CF#32, 0#22 ++ t.toField ++ 0#2 ++ 1#4)

/-- The F_KERN row of a kernel: mask 0xFFFFE7FF (spec/opcode_table.json). -/
def opRowKern (k : KernelId) : OpRow := (0xFFFFE7FF#32, 0#23 ++ k.toField ++ 2#4)

/-- The opcode table's row of a command. -/
def opRow : Instr → OpRow
  | .reconDctDct _ _ _ => opRowRecon .dctDct
  | .reconAdstDct _ _ _ => opRowRecon .adstDct
  | .reconDctAdst _ _ _ => opRowRecon .dctAdst
  | .reconAdstAdst _ _ _ => opRowRecon .adstAdst
  | .reconFlipadstDct _ _ _ => opRowRecon .flipadstDct
  | .reconDctFlipadst _ _ _ => opRowRecon .dctFlipadst
  | .reconFlipadstFlipadst _ _ _ => opRowRecon .flipadstFlipadst
  | .reconAdstFlipadst _ _ _ => opRowRecon .adstFlipadst
  | .reconFlipadstAdst _ _ _ => opRowRecon .flipadstAdst
  | .reconIdtx _ _ _ => opRowRecon .idtx
  | .reconVDct _ _ _ => opRowRecon .vDct
  | .reconHDct _ _ _ => opRowRecon .hDct
  | .reconVAdst _ _ _ => opRowRecon .vAdst
  | .reconHAdst _ _ _ => opRowRecon .hAdst
  | .reconVFlipadst _ _ _ => opRowRecon .vFlipadst
  | .reconHFlipadst _ _ _ => opRowRecon .hFlipadst
  | .reconWht _ _ => (0xFF0007FF#32, 0x00000401#32)
  | .kernIdct4 _ => opRowKern .idct4
  | .kernIdct8 _ => opRowKern .idct8
  | .kernIdct16 _ => opRowKern .idct16
  | .kernIdct32 _ => opRowKern .idct32
  | .kernIadst4 _ => opRowKern .iadst4
  | .kernIadst8 _ => opRowKern .iadst8
  | .kernIadst16 _ => opRowKern .iadst16
  | .kernIhalfright32 _ => opRowKern .ihalfright32
  | .kernIidtx4 _ => opRowKern .iidtx4
  | .kernIidtx8 _ => opRowKern .iidtx8
  | .kernIidtx16 _ => opRowKern .iidtx16
  | .kernIidtx32 _ => opRowKern .iidtx32
  | .kernIwht4 _ => opRowKern .iwht4
  | .init => (0xFFFFFFFF#32, 0x00000003#32)
  | .getscan _ _ _ _ _ => (0xFFFFE00F#32, 0x00000004#32)
  | .scanlookup _ _ _ => (0xFFF8000F#32, 0x00000005#32)
  | .ctx _ _ _ => (0xFFF8000F#32, 0x00000006#32)

/-- The 16 rows RECON.<TxType>, in the table's order. -/
def opTableRecon : List OpRow :=
  [.dctDct, .adstDct, .dctAdst, .adstAdst, .flipadstDct, .dctFlipadst, .flipadstFlipadst, .adstFlipadst,
    .flipadstAdst, .idtx, .vDct, .hDct, .vAdst, .hAdst, .vFlipadst, .hFlipadst].map opRowRecon

/-- The 13 rows KERN1D.<kernel>, in the table's order. -/
def opTableKern : List OpRow :=
  [.idct4, .idct8, .idct16, .idct32, .iadst4, .iadst8, .iadst16, .ihalfright32, .iidtx4, .iidtx8, .iidtx16,
    .iidtx32, .iwht4].map opRowKern

/-- The opcode table: its 34 rows (spec/opcode_table.json). -/
def opTable : List OpRow :=
  opTableRecon ++ [(0xFF0007FF#32, 0x00000401#32)] ++ opTableKern
    ++ [(0xFFFFFFFF#32, 0x00000003#32), (0xFFFFE00F#32, 0x00000004#32), (0xFFF8000F#32, 0x00000005#32),
      (0xFFF8000F#32, 0x00000006#32)]

/-- The command read from a table word: the low `nbits` bits of `w`, with zeros above, decoded with the parameters of
the state after reset. -/
def decodeTableWord (nbits w : Nat) : Option Instr :=
  match decode Config.params (BitVec.ofNat 32 (w % 2 ^ nbits)) with
  | .ok i => some i
  | .error _ => none

end Sys2Proof
end

