-- ==== Sys2Proof/Machine/State.lean ====
section
/-!
DEFINITION. The state of one IXFM engine instance with the pixel space PIX (10_state R30, 20_memory R70), the host's
pending accesses, and the reasons a step can stop. INVENTORY.md, heading State, lists every field with its rule.
-/

namespace Sys2Proof.Machine

/-- A memory of cells of `w` bits: the written cells as (address, value) pairs, addresses strictly rising. An unlisted
address is unwritten (00_scope R17). The unit is the spec's: a word or a sample, never a byte (20_memory R74; log
entry 8). -/
abbrev Memory (w : Nat) := List (Nat × BitVec w)

/-- The canonical form of a memory: addresses strictly rising. (An unlisted address reads as no value, so no entry can
equal what an unlisted address reads as.) -/
abbrev Memory.wf {w : Nat} (m : Memory w) : Prop := m.Pairwise (fun c d => c.1 < d.1)

/-- The value of cell `a`, or none if it is unwritten (00_scope R17). -/
def Memory.read {w : Nat} : Memory w → Nat → Option (BitVec w)
  | [], _ => none
  | (b, v) :: rest, a => if a = b then some v else Memory.read rest a

/-- What one table of the scan store holds after INIT (10_state R46): `iscan[rc]`, and for each scan position its two
neighbours, an absent one (the spec's −1) as `none`. -/
structure BuiltTable where
  iscan : List Nat
  nbr : List (Option Nat × Option Nat)
  deriving DecidableEq, Repr

/-- ISCAN_T and NBR_T for the ten pairs (10_state R46). -/
abbrev ScanTables := PerScan BuiltTable

/-- One access of the host side, in the order the host issues them (20_memory R79, R84). -/
inductive HostAccess where
  /-- A host write of a word to a host register address (10_state R33); to CMD it runs a command (R34). -/
  | write (addr : Nat) (w : Word)
  /-- A host read of a host register address (10_state R33, R48). -/
  | read (addr : Nat)
  /-- The host writes a PIX cell (20_memory R70). -/
  | pixWrite (a : Nat) (v : Sample)
  /-- The host reads a PIX cell (20_memory R70). -/
  | pixRead (a : Nat)
  /-- The platform's reset (70_reset_and_hazards R340). -/
  | reset
  /-- A cell shared with an unordered RECON of another instance ends with a draw (20_memory R83; log entry 7). -/
  | sharedDraw (a : Nat) (bd : BitDepth)
  deriving DecidableEq, Repr

/-- Reasons the model stops. -/
inductive Fault where
  /-- Raised by a host-side access to a PIX cell at or past PIX_SIZE, which does not exist (20_memory R70; log entry 16).
  Safe: no command raises it, and a RECON that would reach such a cell takes DST_RANGE instead. -/
  | pixOutOfRange (a : Nat)
  deriving DecidableEq, Repr

/-- Reasons an instruction has no meaning. -/
inductive Refusal where
  /-- Raised by an arm of `exec` whose instruction has no meaning yet. Safe. No arm raises it. -/
  | notModelled (mnemonic : String)
  deriving DecidableEq, Repr

/-- The machine's state. A register whose reset value is "unwritten" (10_state R49) is an `Option`: "unwritten" is the
spec's own value (70_reset_and_hazards R341). -/
structure State where
  /-- The parameters of the instance, fixed (00_scope R9). -/
  params : Params
  /-- SCAN_ROM, constant (10_state R47). -/
  scanRom : ScanRom
  /-- STATUS.FAULT and STATUS.CAUSE: the cause of the first fault since reset (10_state R35). -/
  fault : Option Cause
  /-- FAULT_CMD (10_state R36). -/
  faultCmd : Word
  /-- DST_BASE (10_state R37). -/
  dstBase : Option Word
  /-- DST_STRIDE (10_state R38). -/
  dstStride : Option Word
  /-- SCAN_SEL: KIND in bits 3:2, TXSZ in bits 1:0 (10_state R39). -/
  scanSel : Option (BitVec 4)
  /-- CTX_OUT (10_state R40). -/
  ctxOut : Option (BitVec 3)
  /-- RES0 (10_state R41). -/
  res0 : Option Word
  /-- RES1 (10_state R41). -/
  res1 : Option Word
  /-- RES2 (10_state R41). -/
  res2 : Option Word
  /-- RES3 (10_state R41). -/
  res3 : Option Word
  /-- VIN[0..31] (10_state R42). -/
  vin : Memory 32
  /-- VOUT[0..31] (10_state R43). -/
  vout : Memory 32
  /-- COEF[0..1023] (10_state R44). -/
  coef : Memory 32
  /-- TOK[0..1023] (10_state R45). -/
  tok : Memory 3
  /-- ISCAN_T and NBR_T; present exactly when TABLES_READY = 1 (10_state R46). -/
  tables : Option ScanTables
  /-- PIX[0..PIX_SIZE-1] (20_memory R70). -/
  pix : Memory 16
  /-- The model's own: how many free values have been drawn (log entry 5). -/
  drawCount : Nat
  /-- The model's own: the host's accesses not yet issued, oldest first (log entry 1). -/
  host : List HostAccess
  /-- The model's own: what the host's last read returned; none where it returned no value (log entry 2). -/
  readData : Option Word
  deriving DecidableEq, Repr

/-- TABLES_READY (10_state R46). -/
def State.tablesReady (s : State) : Bool := s.tables.isSome

/-- The engine right after reset, with given parameters, SCAN_ROM and PIX contents (10_state R49). -/
def State.afterReset (p : Params) (rom : ScanRom) (pix : Memory 16) : State where
  params := p
  scanRom := rom
  fault := none
  faultCmd := 0#32
  dstBase := none
  dstStride := none
  scanSel := none
  ctxOut := none
  res0 := none
  res1 := none
  res2 := none
  res3 := none
  vin := []
  vout := []
  coef := []
  tok := []
  tables := none
  pix := pix
  drawCount := 0
  host := []
  readData := none

/-- The machine after reset (10_state R49): the parameters of `Config.params`, no PIX cell written yet (log entry 9). -/
def State.reset : State := State.afterReset Config.params Config.scanRom []

end Sys2Proof.Machine
end

