-- ==== Sys2Proof/Machine/Flags.lean ====
section
/-!
DEFINITION. The status flags: STATUS.FAULT, STATUS.READY and STATUS.CAUSE (10_state R35), and the cause codes
(60_exceptions R302). The engine has no condition codes (10_state R32).
-/

namespace Sys2Proof.Machine

/-- The 8-bit code of a cause (60_exceptions R302). -/
def causeCode : Cause → BitVec 8
  | .illegalCommand => 0x01#8
  | .badTxType => 0x02#8
  | .badBitDepth => 0x03#8
  | .losslessIllegal => 0x04#8
  | .eobRange => 0x05#8
  | .tablesNotReady => 0x06#8
  | .badKernel => 0x07#8
  | .badScanKind => 0x08#8
  | .posRange => 0x09#8
  | .badIntraMode => 0x0A#8
  | .unwritten => 0x0B#8
  | .tokenRange => 0x0C#8
  | .dstRange => 0x0D#8

/-- STATUS.FAULT (10_state R35, bit 0). -/
def statusFault (s : State) : Bool := s.fault.isSome

/-- STATUS.READY, a copy of TABLES_READY (10_state R35, bit 1). -/
def statusReady (s : State) : Bool := s.tablesReady

/-- STATUS.CAUSE (10_state R35, bits 15:8): 0x00 while FAULT = 0. -/
def statusCause (s : State) : BitVec 8 :=
  match s.fault with
  | some c => causeCode c
  | none => 0x00#8

/-- STATUS as the host reads it (10_state R35): CAUSE in bits 15:8, READY in bit 1, FAULT in bit 0, the rest 0. -/
def statusWord (s : State) : Word :=
  0#16 ++ statusCause s ++ 0#6 ++ BitVec.ofBool (statusReady s) ++ BitVec.ofBool (statusFault s)

end Sys2Proof.Machine
end

