-- ==== Sys2Proof/Machine/Ops.lean ====
section
/-!
DEFINITION. The named operations over memories and registers: writing and erasing memory cells, drawing a free value,
TAKING ContractViolation (60_exceptions R301) and leaving it by reset (70_reset_and_hazards R340), and the host
register map (10_state R33).
-/

namespace Sys2Proof.Machine

/-- Write cell `a`, keeping the addresses strictly rising. -/
def Memory.write {w : Nat} : Memory w → Nat → BitVec w → Memory w
  | [], a, v => [(a, v)]
  | (b, u) :: rest, a, v =>
    if a < b then (a, v) :: (b, u) :: rest
    else if a = b then (a, v) :: rest
    else (b, u) :: Memory.write rest a v

/-- Write a list of cells, first to last. -/
def Memory.writeAll {w : Nat} (m : Memory w) : List (Nat × BitVec w) → Memory w
  | [] => m
  | (a, v) :: rest => Memory.writeAll (m.write a v) rest

/-- Make every cell below `n` unwritten (10_state R44, 42_dispatch R214). -/
def Memory.eraseBelow {w : Nat} (m : Memory w) (n : Nat) : Memory w :=
  m.filter (fun c => decide (n ≤ c.1))

/-- The values of a list of cells, or none if any of them is unwritten (00_scope R17). -/
def Memory.readAll {w : Nat} (m : Memory w) : List Nat → Option (List (BitVec w))
  | [] => some []
  | a :: rest =>
    match m.read a, Memory.readAll m rest with
    | some v, some vs => some (v :: vs)
    | _, _ => none

/-- The k-th draw from `[0, maxPix(bd)]` (00_scope R15, R16): a free value cut to bd bits (log entry 5). -/
def drawSample (bd : BitDepth) (k : Nat) : Sample :=
  BitVec.ofNat 16 ((Config.freeSample k).toNat % 2 ^ bd.bits)

/-- `raise ContractViolation(c)` during the command word `w` (60_exceptions R301): the first fault since reset sets
STATUS.FAULT, STATUS.CAUSE and FAULT_CMD, and nothing else changes. -/
def raise (c : Cause) (w : Word) (s : State) : State :=
  match s.fault with
  | none => { s with fault := some c, faultCmd := w }
  | some _ => s

/-- The platform's reset, the only way out of the fault state (60_exceptions R304, 70_reset_and_hazards R340): every
element has the value of 10_state R49; the parameters, SCAN_ROM and PIX are unchanged. The model's own fields, which
are not the engine's, go on (log entry 18). -/
def platformReset (s : State) : State :=
  { State.afterReset s.params s.scanRom s.pix with
    drawCount := s.drawCount, host := s.host, readData := s.readData }

/-- How a command ends: with its own effect, or by taking the exception its first failing check raises, recording the
command's word (60_exceptions R301, R305; log entry 12). -/
def conclude (i : Instr) (s : State) : Except Cause State → Host.Outcome State Fault Refusal
  | .ok t => .next t
  | .error c => .next (raise c (encode i) s)

/-- What stands at a host register address (10_state R33). -/
inductive HostReg where
  | cmd | status | faultCmd | dstBase | dstStride | scanSel | ctxOut | res0 | res1 | res2 | res3
  | vin (k : Nat) | vout (k : Nat) | coef (i : Nat) | tok (m : Nat)
  | reserved
  deriving DecidableEq, Repr

/-- The host register map (10_state R33): every other address is reserved. -/
def hostReg (addr : Nat) : HostReg :=
  if addr = 0x0000 then .cmd
  else if addr = 0x0001 then .status
  else if addr = 0x0002 then .faultCmd
  else if addr = 0x0003 then .dstBase
  else if addr = 0x0004 then .dstStride
  else if addr = 0x0005 then .scanSel
  else if addr = 0x0006 then .ctxOut
  else if addr = 0x0008 then .res0
  else if addr = 0x0009 then .res1
  else if addr = 0x000A then .res2
  else if addr = 0x000B then .res3
  else if 0x0100 ≤ addr ∧ addr ≤ 0x011F then .vin (addr - 0x0100)
  else if 0x0120 ≤ addr ∧ addr ≤ 0x013F then .vout (addr - 0x0120)
  else if 0x1000 ≤ addr ∧ addr ≤ 0x13FF then .coef (addr - 0x1000)
  else if 0x2000 ≤ addr ∧ addr ≤ 0x23FF then .tok (addr - 0x2000)
  else .reserved

/-- What a host read of an address returns; an unwritten register or cell returns no value, a reserved address and CMD
return 0, and a narrow register is zero-extended (10_state R33, R34, R39, R45, R48). -/
def hostRead (s : State) (addr : Nat) : Option Word :=
  match hostReg addr with
  | .cmd => some 0#32
  | .status => some (statusWord s)
  | .faultCmd => some s.faultCmd
  | .dstBase => s.dstBase
  | .dstStride => s.dstStride
  | .scanSel => s.scanSel.map (fun v => v.setWidth 32)
  | .ctxOut => s.ctxOut.map (fun v => v.setWidth 32)
  | .res0 => s.res0
  | .res1 => s.res1
  | .res2 => s.res2
  | .res3 => s.res3
  | .vin k => s.vin.read k
  | .vout k => s.vout.read k
  | .coef i => s.coef.read i
  | .tok m => (s.tok.read m).map (fun v => v.setWidth 32)
  | .reserved => some 0#32

/-- A host write to an address other than CMD: it stores to the RW registers and memories, whatever STATUS.FAULT holds,
and is ignored elsewhere; a narrow cell keeps the low bits (10_state R33, R45, R48, 60_exceptions R303). -/
def hostStore (s : State) (addr : Nat) (v : Word) : State :=
  match hostReg addr with
  | .dstBase => { s with dstBase := some v }
  | .dstStride => { s with dstStride := some v }
  | .vin k => { s with vin := s.vin.write k v }
  | .coef i => { s with coef := s.coef.write i v }
  | .tok m => { s with tok := s.tok.write m (v.setWidth 3) }
  | .cmd | .status | .faultCmd | .scanSel | .ctxOut | .res0 | .res1 | .res2 | .res3 | .vout _ | .reserved => s

end Sys2Proof.Machine
end

