-- ==== Sys2Proof/Machine/Operands.lean ====
section
/-!
DEFINITION. The arithmetic primitives (00_scope R11 to R15) and the operand forms of the commands: the bit depth and
the other checked fields, the kernel input lanes, the coefficient block, the destination block and the prediction.
-/

namespace Sys2Proof.Machine

/-- The arithmetic right shift `a >> n = floor(a / 2^n)` (00_scope R11). -/
def asr (a : Int) (n : Nat) : Int := a / 2 ^ n

/-- `sext_n(v)`: the n-bit two's-complement value of the low n bits (00_scope R10). -/
def sext (n : Nat) (v : Int) : Int := v.bmod (2 ^ n)

/-- `RPT(x, n) = (x + (1 << (n - 1))) >> n`, which rounds a half up (00_scope R12). -/
def RPT (x : Int) (n : Nat) : Int := asr (x + 2 ^ (n - 1)) n

/-- The constant rounding shift `R(x) = RPT(x, 14)` (00_scope R13). -/
def R (x : Int) : Int := RPT x 14

/-- The wrap `W` at a width of `n` bits: a reduction, never a saturation (00_scope R14). -/
def W (n : Nat) (x : Int) : Int := sext n x

/-- The width of the wrap at a bit depth: 16 at 8 bits, `HBD_WRAP_BITS` at 10 and 12 (00_scope R14). -/
def wrapBits (p : Params) (bd : BitDepth) : Nat :=
  match bd, p.hbdWrap with
  | .d8, _ => 16
  | _, .fixed32 => 32
  | _, .bdPlus8 => bd.bits + 8

/-- `clip(v, lo, hi) = min(max(v, lo), hi)` (00_scope R15). -/
def clip (v lo hi : Int) : Int := min (max v lo) hi

/-- `maxPix(bd) = 2^bd - 1` (00_scope R15). -/
def maxPix (bd : BitDepth) : Int := 2 ^ bd.bits - 1

/-- The TXTYPE check: BAD_TXTYPE for an extended type when `EXT_TX` = 0 (30_encoding R105, R115). -/
def checkTxType (p : Params) (t : TxType) : Except Cause Unit :=
  if t.extended && !p.extTx then .error .badTxType else .ok ()

/-- The BDSEL check: BAD_BITDEPTH for 3, and for 1 and 2 when `HBD` = 0 (30_encoding R106, R115). -/
def checkBitDepth (p : Params) (bdsel : BitVec 2) : Except Cause BitDepth :=
  match BitDepth.ofField bdsel with
  | none => .error .badBitDepth
  | some .d8 => .ok .d8
  | some bd => if p.hbd then .ok bd else .error .badBitDepth

/-- The EOB check: EOB_RANGE above N² (30_encoding R107, R115). -/
def checkEob (sz : TxSize) (eob : BitVec 11) : Except Cause Unit :=
  if sz.area < eob.toNat then .error .eobRange else .ok ()

/-- The KIND and TXSZ check: BAD_SCAN_KIND for 3, and for ROW and COL at 32x32 (30_encoding R109, R115). -/
def checkScan (sz : TxSize) (kind : BitVec 2) : Except Cause ScanId :=
  match ScanKind.ofField kind with
  | none => .error .badScanKind
  | some k =>
    match ScanId.of sz k with
    | none => .error .badScanKind
    | some id => .ok id

/-- The POS check: POS_RANGE at N² and above (30_encoding R111, R115). -/
def checkPos (sz : TxSize) (pos : BitVec 11) : Except Cause Nat :=
  if pos.toNat < sz.area then .ok pos.toNat else .error .posRange

/-- The table-ready check (43_scan_context R260). -/
def checkTables (s : State) : Except Cause ScanTables :=
  match s.tables with
  | some t => .ok t
  | none => .error .tablesNotReady

/-- A value or UNWRITTEN (00_scope R17). -/
def orUnwritten {α : Type} : Option α → Except Cause α
  | some a => .ok a
  | none => .error .unwritten

/-- A list of 32-bit words read as an integer vector through the wrap of `n` bits (41_kernels R144, 42_dispatch R204). -/
def wrapWords (n : Nat) (ws : List Word) : Vec := ws.map (fun v => W n v.toInt)

/-- VIN[0..size-1], or UNWRITTEN (41_kernels R144). -/
def kernelInput (s : State) (size : Nat) : Except Cause (List Word) :=
  orUnwritten (s.vin.readAll (List.range size))

/-- Where a destination block lies: DST_BASE and DST_STRIDE (20_memory R71). -/
structure DestBlock where
  base : Nat
  stride : Nat
  deriving DecidableEq, Repr

/-- `A(i, j) = DST_BASE + i*DST_STRIDE + j`, computed exactly (20_memory R71). -/
def destAddr (b : DestBlock) (i j : Nat) : Nat := b.base + i * b.stride + j

/-- The addresses of a block of side `n`, in raster order (20_memory R71, 00_scope R18). -/
def destAddrs (b : DestBlock) (n : Nat) : List Nat :=
  (List.range (n * n)).map (fun k => destAddr b (k / n) (k % n))

/-- Checks (4) and (5) of 42_dispatch R203: UNWRITTEN if DST_BASE or DST_STRIDE is unwritten, DST_RANGE if the stride is
below N or the last cell is at or past PIX_SIZE. -/
def checkDest (s : State) (sz : TxSize) : Except Cause DestBlock :=
  match s.dstBase, s.dstStride with
  | some base, some stride =>
    let b : DestBlock := ⟨base.toNat, stride.toNat⟩
    if b.stride < sz.side ∨ s.params.pixSize ≤ destAddr b (sz.side - 1) (sz.side - 1) then .error .dstRange
    else .ok b
  | _, _ => .error .unwritten

/-- COEF[0..N²-1], or UNWRITTEN (42_dispatch R203 (6)). -/
def coefInput (s : State) (sz : TxSize) : Except Cause (List Word) :=
  orUnwritten (s.coef.readAll (List.range sz.area))

/-- The prediction cells of the destination block in raster order, or UNWRITTEN (42_dispatch R203 (7)). -/
def predInput (s : State) (b : DestBlock) (sz : TxSize) : Except Cause (List Sample) :=
  orUnwritten (s.pix.readAll (destAddrs b sz.side))

/-- The prediction sample of a cell: its low 8 bits at bit depth 8, all 16 bits at 10 and 12 (20_memory R72). -/
def predValue (bd : BitDepth) (v : Sample) : Int :=
  match bd with
  | .d8 => ((v.toNat % 2 ^ 8 : Nat) : Int)
  | .d10 => (v.toNat : Int)
  | .d12 => (v.toNat : Int)

end Sys2Proof.Machine
end

