-- ==== Sys2Proof/Machine/Kernels.lean ====
section
/-!
DEFINITION. The constants and the 13 one-dimensional kernels (41_kernels R140 to R158), as exact integer functions of
the wrap width `n` and the input vector.

A kernel whose pseudocode works on arrays is cut into its runs of assignments to one array (`…Stage1`, `…Stage2`, …):
the list of a stage holds that array's lanes in order after the run, and the kernel's definition chains the stages with
the pseudocode's own array names. IADST8's scalars x0 to x7 and s0 to s7 are the lanes of `x` and `s`.
-/

namespace Sys2Proof.Machine

/-- The cosine constants `round(16384 * cos(k*pi/64))` for k = 0 to 31 (41_kernels R141). -/
def cosTable : List Int :=
  [16384, 16364, 16305, 16207, 16069, 15893, 15679, 15426, 15137, 14811, 14449, 14053, 13623, 13160, 12665, 12140,
   11585, 11003, 10394, 9760, 9102, 8423, 7723, 7005, 6270, 5520, 4756, 3981, 3196, 2404, 1606, 804]

/-- `C[k]` (41_kernels R141). -/
def C (k : Nat) : Int := cosTable.getD k 0

/-- `SINPI[k]` for k = 1 to 4 (41_kernels R142). -/
def SINPI (k : Nat) : Int := [0, 5283, 9929, 13377, 15212].getD k 0

/-- `SQRT2`, the Q14 value of √2 (41_kernels R143). -/
def SQRT2 : Int := 23170

/-- `UNIT_QUANT_SHIFT`, the pre-shift of the lossless path (41_kernels R143). -/
def UNIT_QUANT_SHIFT : Nat := 2

/-- IDCT4 (41_kernels R146): the 4-point inverse DCT-II. -/
def idct4 (n : Nat) (X : Vec) : Vec :=
  let s0 := W n (R ((X.at 0 + X.at 2) * C 16))
  let s1 := W n (R ((X.at 0 - X.at 2) * C 16))
  let s2 := W n (R (X.at 1 * C 24 - X.at 3 * C 8))
  let s3 := W n (R (X.at 1 * C 8 + X.at 3 * C 24))
  [W n (s0 + s3), W n (s1 + s2), W n (s1 - s2), W n (s0 - s3)]

/-- IDCT8, assignment 1: `a` (41_kernels R147). Lanes 0, 1, 2, 3 of `a` are not assigned yet and not read. -/
def idct8Stage1 (n : Nat) (X : Vec) : Vec :=
  [0, 0, 0, 0, W n (R (X.at 1 * C 28 - X.at 7 * C 4)), W n (R (X.at 5 * C 12 - X.at 3 * C 20)),
   W n (R (X.at 5 * C 20 + X.at 3 * C 12)), W n (R (X.at 1 * C 4 + X.at 7 * C 28))]

/-- IDCT8, assignment 2: `b` (41_kernels R147). -/
def idct8Stage2 (n : Nat) (X a : Vec) : Vec :=
  [W n (R ((X.at 0 + X.at 4) * C 16)), W n (R ((X.at 0 - X.at 4) * C 16)),
   W n (R (X.at 2 * C 24 - X.at 6 * C 8)), W n (R (X.at 2 * C 8 + X.at 6 * C 24)), W n (a.at 4 + a.at 5),
   W n (a.at 4 - a.at 5), W n (-a.at 6 + a.at 7), W n (a.at 6 + a.at 7)]

/-- IDCT8, assignment 3: `a` (41_kernels R147). -/
def idct8Stage3 (n : Nat) (b : Vec) : Vec :=
  [W n (b.at 0 + b.at 3), W n (b.at 1 + b.at 2), W n (b.at 1 - b.at 2), W n (b.at 0 - b.at 3), b.at 4,
   W n (R ((b.at 6 - b.at 5) * C 16)), W n (R ((b.at 5 + b.at 6) * C 16)), b.at 7]

/-- IDCT8, assignment 4: the output `Y` (41_kernels R147). -/
def idct8Stage4 (n : Nat) (a : Vec) : Vec :=
  [W n (a.at 0 + a.at 7), W n (a.at 1 + a.at 6), W n (a.at 2 + a.at 5), W n (a.at 3 + a.at 4),
   W n (a.at 3 - a.at 4), W n (a.at 2 - a.at 5), W n (a.at 1 - a.at 6), W n (a.at 0 - a.at 7)]

/-- IDCT8 (41_kernels R147): the 8-point inverse DCT-II. -/
def idct8 (n : Nat) (X : Vec) : Vec :=
  let a := idct8Stage1 n X
  let b := idct8Stage2 n X a
  let a := idct8Stage3 n b
  idct8Stage4 n a

/-- IDCT16, assignment 1: `a` (41_kernels R148). -/
def idct16Stage1 (X : Vec) : Vec :=
  [X.at 0, X.at 8, X.at 4, X.at 12, X.at 2, X.at 10, X.at 6, X.at 14, X.at 1, X.at 9, X.at 5, X.at 13, X.at 3,
   X.at 11, X.at 7, X.at 15]

/-- IDCT16, assignment 2: `b` (41_kernels R148). -/
def idct16Stage2 (n : Nat) (a : Vec) : Vec :=
  [a.at 0, a.at 1, a.at 2, a.at 3, a.at 4, a.at 5, a.at 6, a.at 7, W n (R (a.at 8 * C 30 - a.at 15 * C 2)),
   W n (R (a.at 9 * C 14 - a.at 14 * C 18)), W n (R (a.at 10 * C 22 - a.at 13 * C 10)),
   W n (R (a.at 11 * C 6 - a.at 12 * C 26)), W n (R (a.at 11 * C 26 + a.at 12 * C 6)),
   W n (R (a.at 10 * C 10 + a.at 13 * C 22)), W n (R (a.at 9 * C 18 + a.at 14 * C 14)),
   W n (R (a.at 8 * C 2 + a.at 15 * C 30))]

/-- IDCT16, assignment 3: `a` (41_kernels R148). -/
def idct16Stage3 (n : Nat) (b : Vec) : Vec :=
  [b.at 0, b.at 1, b.at 2, b.at 3, W n (R (b.at 4 * C 28 - b.at 7 * C 4)),
   W n (R (b.at 5 * C 12 - b.at 6 * C 20)), W n (R (b.at 5 * C 20 + b.at 6 * C 12)),
   W n (R (b.at 4 * C 4 + b.at 7 * C 28)), W n (b.at 8 + b.at 9), W n (b.at 8 - b.at 9),
   W n (-b.at 10 + b.at 11), W n (b.at 10 + b.at 11), W n (b.at 12 + b.at 13), W n (b.at 12 - b.at 13),
   W n (-b.at 14 + b.at 15), W n (b.at 14 + b.at 15)]

/-- IDCT16, assignment 4: `b` (41_kernels R148). -/
def idct16Stage4 (n : Nat) (a : Vec) : Vec :=
  [W n (R ((a.at 0 + a.at 1) * C 16)), W n (R ((a.at 0 - a.at 1) * C 16)),
   W n (R (a.at 2 * C 24 - a.at 3 * C 8)), W n (R (a.at 2 * C 8 + a.at 3 * C 24)), W n (a.at 4 + a.at 5),
   W n (a.at 4 - a.at 5), W n (-a.at 6 + a.at 7), W n (a.at 6 + a.at 7), a.at 8,
   W n (R (-a.at 9 * C 8 + a.at 14 * C 24)), W n (R (-a.at 10 * C 24 - a.at 13 * C 8)), a.at 11, a.at 12,
   W n (R (-a.at 10 * C 8 + a.at 13 * C 24)), W n (R (a.at 9 * C 24 + a.at 14 * C 8)), a.at 15]

/-- IDCT16, assignment 5: `a` (41_kernels R148). -/
def idct16Stage5 (n : Nat) (b : Vec) : Vec :=
  [W n (b.at 0 + b.at 3), W n (b.at 1 + b.at 2), W n (b.at 1 - b.at 2), W n (b.at 0 - b.at 3), b.at 4,
   W n (R ((b.at 6 - b.at 5) * C 16)), W n (R ((b.at 5 + b.at 6) * C 16)), b.at 7, W n (b.at 8 + b.at 11),
   W n (b.at 9 + b.at 10), W n (b.at 9 - b.at 10), W n (b.at 8 - b.at 11), W n (-b.at 12 + b.at 15),
   W n (-b.at 13 + b.at 14), W n (b.at 13 + b.at 14), W n (b.at 12 + b.at 15)]

/-- IDCT16, assignment 6: `b` (41_kernels R148). -/
def idct16Stage6 (n : Nat) (a : Vec) : Vec :=
  [W n (a.at 0 + a.at 7), W n (a.at 1 + a.at 6), W n (a.at 2 + a.at 5), W n (a.at 3 + a.at 4),
   W n (a.at 3 - a.at 4), W n (a.at 2 - a.at 5), W n (a.at 1 - a.at 6), W n (a.at 0 - a.at 7), a.at 8, a.at 9,
   W n (R ((-a.at 10 + a.at 13) * C 16)), W n (R ((-a.at 11 + a.at 12) * C 16)),
   W n (R ((a.at 11 + a.at 12) * C 16)), W n (R ((a.at 10 + a.at 13) * C 16)), a.at 14, a.at 15]

/-- IDCT16, assignment 7: the output `Y` (41_kernels R148). -/
def idct16Stage7 (n : Nat) (b : Vec) : Vec :=
  [W n (b.at 0 + b.at 15), W n (b.at 1 + b.at 14), W n (b.at 2 + b.at 13), W n (b.at 3 + b.at 12),
   W n (b.at 4 + b.at 11), W n (b.at 5 + b.at 10), W n (b.at 6 + b.at 9), W n (b.at 7 + b.at 8),
   W n (b.at 7 - b.at 8), W n (b.at 6 - b.at 9), W n (b.at 5 - b.at 10), W n (b.at 4 - b.at 11),
   W n (b.at 3 - b.at 12), W n (b.at 2 - b.at 13), W n (b.at 1 - b.at 14), W n (b.at 0 - b.at 15)]

/-- IDCT16 (41_kernels R148): the 16-point inverse DCT-II. -/
def idct16 (n : Nat) (X : Vec) : Vec :=
  let a := idct16Stage1 X
  let b := idct16Stage2 n a
  let a := idct16Stage3 n b
  let b := idct16Stage4 n a
  let a := idct16Stage5 n b
  let b := idct16Stage6 n a
  idct16Stage7 n b

/-- IDCT32, assignment 1: `a` (41_kernels R149). -/
def idct32Stage1 (n : Nat) (X : Vec) : Vec :=
  [X.at 0, X.at 16, X.at 8, X.at 24, X.at 4, X.at 20, X.at 12, X.at 28, X.at 2, X.at 18, X.at 10, X.at 26,
   X.at 6, X.at 22, X.at 14, X.at 30, W n (R (X.at 1 * C 31 - X.at 31 * C 1)),
   W n (R (X.at 17 * C 15 - X.at 15 * C 17)), W n (R (X.at 9 * C 23 - X.at 23 * C 9)),
   W n (R (X.at 25 * C 7 - X.at 7 * C 25)), W n (R (X.at 5 * C 27 - X.at 27 * C 5)),
   W n (R (X.at 21 * C 11 - X.at 11 * C 21)), W n (R (X.at 13 * C 19 - X.at 19 * C 13)),
   W n (R (X.at 29 * C 3 - X.at 3 * C 29)), W n (R (X.at 29 * C 29 + X.at 3 * C 3)),
   W n (R (X.at 13 * C 13 + X.at 19 * C 19)), W n (R (X.at 21 * C 21 + X.at 11 * C 11)),
   W n (R (X.at 5 * C 5 + X.at 27 * C 27)), W n (R (X.at 25 * C 25 + X.at 7 * C 7)),
   W n (R (X.at 9 * C 9 + X.at 23 * C 23)), W n (R (X.at 17 * C 17 + X.at 15 * C 15)),
   W n (R (X.at 1 * C 1 + X.at 31 * C 31))]

/-- IDCT32, assignment 2: `b` (41_kernels R149). -/
def idct32Stage2 (n : Nat) (a : Vec) : Vec :=
  [a.at 0, a.at 1, a.at 2, a.at 3, a.at 4, a.at 5, a.at 6, a.at 7, W n (R (a.at 8 * C 30 - a.at 15 * C 2)),
   W n (R (a.at 9 * C 14 - a.at 14 * C 18)), W n (R (a.at 10 * C 22 - a.at 13 * C 10)),
   W n (R (a.at 11 * C 6 - a.at 12 * C 26)), W n (R (a.at 11 * C 26 + a.at 12 * C 6)),
   W n (R (a.at 10 * C 10 + a.at 13 * C 22)), W n (R (a.at 9 * C 18 + a.at 14 * C 14)),
   W n (R (a.at 8 * C 2 + a.at 15 * C 30)), W n (a.at 16 + a.at 17), W n (a.at 16 - a.at 17),
   W n (-a.at 18 + a.at 19), W n (a.at 18 + a.at 19), W n (a.at 20 + a.at 21), W n (a.at 20 - a.at 21),
   W n (-a.at 22 + a.at 23), W n (a.at 22 + a.at 23), W n (a.at 24 + a.at 25), W n (a.at 24 - a.at 25),
   W n (-a.at 26 + a.at 27), W n (a.at 26 + a.at 27), W n (a.at 28 + a.at 29), W n (a.at 28 - a.at 29),
   W n (-a.at 30 + a.at 31), W n (a.at 30 + a.at 31)]

/-- IDCT32, assignment 3: `a` (41_kernels R149). -/
def idct32Stage3 (n : Nat) (b : Vec) : Vec :=
  [b.at 0, b.at 1, b.at 2, b.at 3, W n (R (b.at 4 * C 28 - b.at 7 * C 4)),
   W n (R (b.at 5 * C 12 - b.at 6 * C 20)), W n (R (b.at 5 * C 20 + b.at 6 * C 12)),
   W n (R (b.at 4 * C 4 + b.at 7 * C 28)), W n (b.at 8 + b.at 9), W n (b.at 8 - b.at 9),
   W n (-b.at 10 + b.at 11), W n (b.at 10 + b.at 11), W n (b.at 12 + b.at 13), W n (b.at 12 - b.at 13),
   W n (-b.at 14 + b.at 15), W n (b.at 14 + b.at 15), b.at 16, W n (R (-b.at 17 * C 4 + b.at 30 * C 28)),
   W n (R (-b.at 18 * C 28 - b.at 29 * C 4)), b.at 19, b.at 20, W n (R (-b.at 21 * C 20 + b.at 26 * C 12)),
   W n (R (-b.at 22 * C 12 - b.at 25 * C 20)), b.at 23, b.at 24, W n (R (-b.at 22 * C 20 + b.at 25 * C 12)),
   W n (R (b.at 21 * C 12 + b.at 26 * C 20)), b.at 27, b.at 28, W n (R (-b.at 18 * C 4 + b.at 29 * C 28)),
   W n (R (b.at 17 * C 28 + b.at 30 * C 4)), b.at 31]

/-- IDCT32, assignment 4: `b` (41_kernels R149). -/
def idct32Stage4 (n : Nat) (a : Vec) : Vec :=
  [W n (R ((a.at 0 + a.at 1) * C 16)), W n (R ((a.at 0 - a.at 1) * C 16)),
   W n (R (a.at 2 * C 24 - a.at 3 * C 8)), W n (R (a.at 2 * C 8 + a.at 3 * C 24)), W n (a.at 4 + a.at 5),
   W n (a.at 4 - a.at 5), W n (-a.at 6 + a.at 7), W n (a.at 6 + a.at 7), a.at 8,
   W n (R (-a.at 9 * C 8 + a.at 14 * C 24)), W n (R (-a.at 10 * C 24 - a.at 13 * C 8)), a.at 11, a.at 12,
   W n (R (-a.at 10 * C 8 + a.at 13 * C 24)), W n (R (a.at 9 * C 24 + a.at 14 * C 8)), a.at 15,
   W n (a.at 16 + a.at 19), W n (a.at 17 + a.at 18), W n (a.at 17 - a.at 18), W n (a.at 16 - a.at 19),
   W n (-a.at 20 + a.at 23), W n (-a.at 21 + a.at 22), W n (a.at 21 + a.at 22), W n (a.at 20 + a.at 23),
   W n (a.at 24 + a.at 27), W n (a.at 25 + a.at 26), W n (a.at 25 - a.at 26), W n (a.at 24 - a.at 27),
   W n (-a.at 28 + a.at 31), W n (-a.at 29 + a.at 30), W n (a.at 29 + a.at 30), W n (a.at 28 + a.at 31)]

/-- IDCT32, assignment 5: `a` (41_kernels R149). -/
def idct32Stage5 (n : Nat) (b : Vec) : Vec :=
  [W n (b.at 0 + b.at 3), W n (b.at 1 + b.at 2), W n (b.at 1 - b.at 2), W n (b.at 0 - b.at 3), b.at 4,
   W n (R ((b.at 6 - b.at 5) * C 16)), W n (R ((b.at 5 + b.at 6) * C 16)), b.at 7, W n (b.at 8 + b.at 11),
   W n (b.at 9 + b.at 10), W n (b.at 9 - b.at 10), W n (b.at 8 - b.at 11), W n (-b.at 12 + b.at 15),
   W n (-b.at 13 + b.at 14), W n (b.at 13 + b.at 14), W n (b.at 12 + b.at 15), b.at 16, b.at 17,
   W n (R (-b.at 18 * C 8 + b.at 29 * C 24)), W n (R (-b.at 19 * C 8 + b.at 28 * C 24)),
   W n (R (-b.at 20 * C 24 - b.at 27 * C 8)), W n (R (-b.at 21 * C 24 - b.at 26 * C 8)), b.at 22, b.at 23,
   b.at 24, b.at 25, W n (R (-b.at 21 * C 8 + b.at 26 * C 24)), W n (R (-b.at 20 * C 8 + b.at 27 * C 24)),
   W n (R (b.at 19 * C 24 + b.at 28 * C 8)), W n (R (b.at 18 * C 24 + b.at 29 * C 8)), b.at 30, b.at 31]

/-- IDCT32, assignment 6: `b` (41_kernels R149). -/
def idct32Stage6 (n : Nat) (a : Vec) : Vec :=
  [W n (a.at 0 + a.at 7), W n (a.at 1 + a.at 6), W n (a.at 2 + a.at 5), W n (a.at 3 + a.at 4),
   W n (a.at 3 - a.at 4), W n (a.at 2 - a.at 5), W n (a.at 1 - a.at 6), W n (a.at 0 - a.at 7), a.at 8, a.at 9,
   W n (R ((-a.at 10 + a.at 13) * C 16)), W n (R ((-a.at 11 + a.at 12) * C 16)),
   W n (R ((a.at 11 + a.at 12) * C 16)), W n (R ((a.at 10 + a.at 13) * C 16)), a.at 14, a.at 15,
   W n (a.at 16 + a.at 23), W n (a.at 17 + a.at 22), W n (a.at 18 + a.at 21), W n (a.at 19 + a.at 20),
   W n (a.at 19 - a.at 20), W n (a.at 18 - a.at 21), W n (a.at 17 - a.at 22), W n (a.at 16 - a.at 23),
   W n (-a.at 24 + a.at 31), W n (-a.at 25 + a.at 30), W n (-a.at 26 + a.at 29), W n (-a.at 27 + a.at 28),
   W n (a.at 27 + a.at 28), W n (a.at 26 + a.at 29), W n (a.at 25 + a.at 30), W n (a.at 24 + a.at 31)]

/-- IDCT32, assignment 7: `a` (41_kernels R149). -/
def idct32Stage7 (n : Nat) (b : Vec) : Vec :=
  [W n (b.at 0 + b.at 15), W n (b.at 1 + b.at 14), W n (b.at 2 + b.at 13), W n (b.at 3 + b.at 12),
   W n (b.at 4 + b.at 11), W n (b.at 5 + b.at 10), W n (b.at 6 + b.at 9), W n (b.at 7 + b.at 8),
   W n (b.at 7 - b.at 8), W n (b.at 6 - b.at 9), W n (b.at 5 - b.at 10), W n (b.at 4 - b.at 11),
   W n (b.at 3 - b.at 12), W n (b.at 2 - b.at 13), W n (b.at 1 - b.at 14), W n (b.at 0 - b.at 15), b.at 16,
   b.at 17, b.at 18, b.at 19, W n (R ((-b.at 20 + b.at 27) * C 16)), W n (R ((-b.at 21 + b.at 26) * C 16)),
   W n (R ((-b.at 22 + b.at 25) * C 16)), W n (R ((-b.at 23 + b.at 24) * C 16)),
   W n (R ((b.at 23 + b.at 24) * C 16)), W n (R ((b.at 22 + b.at 25) * C 16)),
   W n (R ((b.at 21 + b.at 26) * C 16)), W n (R ((b.at 20 + b.at 27) * C 16)), b.at 28, b.at 29, b.at 30,
   b.at 31]

/-- IDCT32, assignment 8: the output `Y` (41_kernels R149). -/
def idct32Stage8 (n : Nat) (a : Vec) : Vec :=
  [W n (a.at 0 + a.at 31), W n (a.at 1 + a.at 30), W n (a.at 2 + a.at 29), W n (a.at 3 + a.at 28),
   W n (a.at 4 + a.at 27), W n (a.at 5 + a.at 26), W n (a.at 6 + a.at 25), W n (a.at 7 + a.at 24),
   W n (a.at 8 + a.at 23), W n (a.at 9 + a.at 22), W n (a.at 10 + a.at 21), W n (a.at 11 + a.at 20),
   W n (a.at 12 + a.at 19), W n (a.at 13 + a.at 18), W n (a.at 14 + a.at 17), W n (a.at 15 + a.at 16),
   W n (a.at 15 - a.at 16), W n (a.at 14 - a.at 17), W n (a.at 13 - a.at 18), W n (a.at 12 - a.at 19),
   W n (a.at 11 - a.at 20), W n (a.at 10 - a.at 21), W n (a.at 9 - a.at 22), W n (a.at 8 - a.at 23),
   W n (a.at 7 - a.at 24), W n (a.at 6 - a.at 25), W n (a.at 5 - a.at 26), W n (a.at 4 - a.at 27),
   W n (a.at 3 - a.at 28), W n (a.at 2 - a.at 29), W n (a.at 1 - a.at 30), W n (a.at 0 - a.at 31)]

/-- IDCT32 (41_kernels R149): the 32-point inverse DCT-II. -/
def idct32 (n : Nat) (X : Vec) : Vec :=
  let a := idct32Stage1 n X
  let b := idct32Stage2 n a
  let a := idct32Stage3 n b
  let b := idct32Stage4 n a
  let a := idct32Stage5 n b
  let b := idct32Stage6 n a
  let a := idct32Stage7 n b
  idct32Stage8 n a

/-- IADST4 (41_kernels R150): the 4-point inverse ADST; only `s7` is wrapped before its product. -/
def iadst4 (n : Nat) (X : Vec) : Vec :=
  let s0 := SINPI 1 * X.at 0
  let s1 := SINPI 2 * X.at 0
  let s2 := SINPI 3 * X.at 1
  let s3 := SINPI 4 * X.at 2
  let s4 := SINPI 1 * X.at 2
  let s5 := SINPI 2 * X.at 3
  let s6 := SINPI 4 * X.at 3
  let s7 := W n (X.at 0 - X.at 2 + X.at 3)
  let t0 := s0 + s3 + s5
  let t1 := s1 - s4 - s6
  let t2 := SINPI 3 * s7
  let t3 := s2
  [W n (R (t0 + t3)), W n (R (t1 + t3)), W n (R t2), W n (R (t0 + t1 - t3))]

/-- IADST8, assignment 1: `x` (41_kernels R151). -/
def iadst8Stage1 (X : Vec) : Vec :=
  [X.at 7, X.at 0, X.at 5, X.at 2, X.at 3, X.at 4, X.at 1, X.at 6]

/-- IADST8, assignment 2: `s` (41_kernels R151). -/
def iadst8Stage2 (x : Vec) : Vec :=
  [C 2 * x.at 0 + C 30 * x.at 1, C 30 * x.at 0 - C 2 * x.at 1, C 10 * x.at 2 + C 22 * x.at 3,
   C 22 * x.at 2 - C 10 * x.at 3, C 18 * x.at 4 + C 14 * x.at 5, C 14 * x.at 4 - C 18 * x.at 5,
   C 26 * x.at 6 + C 6 * x.at 7, C 6 * x.at 6 - C 26 * x.at 7]

/-- IADST8, assignment 3: `x` (41_kernels R151). -/
def iadst8Stage3 (n : Nat) (s : Vec) : Vec :=
  [W n (R (s.at 0 + s.at 4)), W n (R (s.at 1 + s.at 5)), W n (R (s.at 2 + s.at 6)), W n (R (s.at 3 + s.at 7)),
   W n (R (s.at 0 - s.at 4)), W n (R (s.at 1 - s.at 5)), W n (R (s.at 2 - s.at 6)), W n (R (s.at 3 - s.at 7))]

/-- IADST8, assignment 4: `s` (41_kernels R151). -/
def iadst8Stage4 (x : Vec) : Vec :=
  [x.at 0, x.at 1, x.at 2, x.at 3, C 8 * x.at 4 + C 24 * x.at 5, C 24 * x.at 4 - C 8 * x.at 5,
   -C 24 * x.at 6 + C 8 * x.at 7, C 8 * x.at 6 + C 24 * x.at 7]

/-- IADST8, assignment 5: `x` (41_kernels R151). -/
def iadst8Stage5 (n : Nat) (s : Vec) : Vec :=
  [W n (s.at 0 + s.at 2), W n (s.at 1 + s.at 3), W n (s.at 0 - s.at 2), W n (s.at 1 - s.at 3),
   W n (R (s.at 4 + s.at 6)), W n (R (s.at 5 + s.at 7)), W n (R (s.at 4 - s.at 6)), W n (R (s.at 5 - s.at 7))]

/-- IADST8, assignment 6: `s` (41_kernels R151). Lanes 0, 1, 4, 5 of `s` are kept. -/
def iadst8Stage6 (x s : Vec) : Vec :=
  [s.at 0, s.at 1, C 16 * (x.at 2 + x.at 3), C 16 * (x.at 2 - x.at 3), s.at 4, s.at 5,
   C 16 * (x.at 6 + x.at 7), C 16 * (x.at 6 - x.at 7)]

/-- IADST8, assignment 7: `x` (41_kernels R151). Lanes 0, 1, 4, 5 of `x` are kept. -/
def iadst8Stage7 (n : Nat) (x s : Vec) : Vec :=
  [x.at 0, x.at 1, W n (R (s.at 2)), W n (R (s.at 3)), x.at 4, x.at 5, W n (R (s.at 6)), W n (R (s.at 7))]

/-- IADST8, assignment 8: the output `Y` (41_kernels R151). -/
def iadst8Stage8 (n : Nat) (x : Vec) : Vec :=
  [W n (x.at 0), W n (-x.at 4), W n (x.at 6), W n (-x.at 2), W n (x.at 3), W n (-x.at 7), W n (x.at 5),
   W n (-x.at 1)]

/-- IADST8 (41_kernels R151): the 8-point inverse ADST. -/
def iadst8 (n : Nat) (X : Vec) : Vec :=
  let x := iadst8Stage1 X
  let s := iadst8Stage2 x
  let x := iadst8Stage3 n s
  let s := iadst8Stage4 x
  let x := iadst8Stage5 n s
  let s := iadst8Stage6 x s
  let x := iadst8Stage7 n x s
  iadst8Stage8 n x

/-- IADST16, assignment 1: `x` (41_kernels R152). -/
def iadst16Stage1 (X : Vec) : Vec :=
  [X.at 15, X.at 0, X.at 13, X.at 2, X.at 11, X.at 4, X.at 9, X.at 6, X.at 7, X.at 8, X.at 5, X.at 10, X.at 3,
   X.at 12, X.at 1, X.at 14]

/-- IADST16, assignment 2: `s` (41_kernels R152). -/
def iadst16Stage2 (x : Vec) : Vec :=
  [x.at 0 * C 1 + x.at 1 * C 31, x.at 0 * C 31 - x.at 1 * C 1, x.at 2 * C 5 + x.at 3 * C 27,
   x.at 2 * C 27 - x.at 3 * C 5, x.at 4 * C 9 + x.at 5 * C 23, x.at 4 * C 23 - x.at 5 * C 9,
   x.at 6 * C 13 + x.at 7 * C 19, x.at 6 * C 19 - x.at 7 * C 13, x.at 8 * C 17 + x.at 9 * C 15,
   x.at 8 * C 15 - x.at 9 * C 17, x.at 10 * C 21 + x.at 11 * C 11, x.at 10 * C 11 - x.at 11 * C 21,
   x.at 12 * C 25 + x.at 13 * C 7, x.at 12 * C 7 - x.at 13 * C 25, x.at 14 * C 29 + x.at 15 * C 3,
   x.at 14 * C 3 - x.at 15 * C 29]

/-- IADST16, assignment 3: `x` (41_kernels R152). -/
def iadst16Stage3 (n : Nat) (s : Vec) : Vec :=
  [W n (R (s.at 0 + s.at 8)), W n (R (s.at 1 + s.at 9)), W n (R (s.at 2 + s.at 10)),
   W n (R (s.at 3 + s.at 11)), W n (R (s.at 4 + s.at 12)), W n (R (s.at 5 + s.at 13)),
   W n (R (s.at 6 + s.at 14)), W n (R (s.at 7 + s.at 15)), W n (R (s.at 0 - s.at 8)),
   W n (R (s.at 1 - s.at 9)), W n (R (s.at 2 - s.at 10)), W n (R (s.at 3 - s.at 11)),
   W n (R (s.at 4 - s.at 12)), W n (R (s.at 5 - s.at 13)), W n (R (s.at 6 - s.at 14)),
   W n (R (s.at 7 - s.at 15))]

/-- IADST16, assignment 4: `s` (41_kernels R152). -/
def iadst16Stage4 (x : Vec) : Vec :=
  [x.at 0, x.at 1, x.at 2, x.at 3, x.at 4, x.at 5, x.at 6, x.at 7, x.at 8 * C 4 + x.at 9 * C 28,
   x.at 8 * C 28 - x.at 9 * C 4, x.at 10 * C 20 + x.at 11 * C 12, x.at 10 * C 12 - x.at 11 * C 20,
   -x.at 12 * C 28 + x.at 13 * C 4, x.at 12 * C 4 + x.at 13 * C 28, -x.at 14 * C 12 + x.at 15 * C 20,
   x.at 14 * C 20 + x.at 15 * C 12]

/-- IADST16, assignment 5: `x` (41_kernels R152). -/
def iadst16Stage5 (n : Nat) (s : Vec) : Vec :=
  [W n (s.at 0 + s.at 4), W n (s.at 1 + s.at 5), W n (s.at 2 + s.at 6), W n (s.at 3 + s.at 7),
   W n (s.at 0 - s.at 4), W n (s.at 1 - s.at 5), W n (s.at 2 - s.at 6), W n (s.at 3 - s.at 7),
   W n (R (s.at 8 + s.at 12)), W n (R (s.at 9 + s.at 13)), W n (R (s.at 10 + s.at 14)),
   W n (R (s.at 11 + s.at 15)), W n (R (s.at 8 - s.at 12)), W n (R (s.at 9 - s.at 13)),
   W n (R (s.at 10 - s.at 14)), W n (R (s.at 11 - s.at 15))]

/-- IADST16, assignment 6: `s` (41_kernels R152). -/
def iadst16Stage6 (x : Vec) : Vec :=
  [x.at 0, x.at 1, x.at 2, x.at 3, x.at 4 * C 8 + x.at 5 * C 24, x.at 4 * C 24 - x.at 5 * C 8,
   -x.at 6 * C 24 + x.at 7 * C 8, x.at 6 * C 8 + x.at 7 * C 24, x.at 8, x.at 9, x.at 10, x.at 11,
   x.at 12 * C 8 + x.at 13 * C 24, x.at 12 * C 24 - x.at 13 * C 8, -x.at 14 * C 24 + x.at 15 * C 8,
   x.at 14 * C 8 + x.at 15 * C 24]

/-- IADST16, assignment 7: `x` (41_kernels R152). -/
def iadst16Stage7 (n : Nat) (s : Vec) : Vec :=
  [W n (s.at 0 + s.at 2), W n (s.at 1 + s.at 3), W n (s.at 0 - s.at 2), W n (s.at 1 - s.at 3),
   W n (R (s.at 4 + s.at 6)), W n (R (s.at 5 + s.at 7)), W n (R (s.at 4 - s.at 6)), W n (R (s.at 5 - s.at 7)),
   W n (s.at 8 + s.at 10), W n (s.at 9 + s.at 11), W n (s.at 8 - s.at 10), W n (s.at 9 - s.at 11),
   W n (R (s.at 12 + s.at 14)), W n (R (s.at 13 + s.at 15)), W n (R (s.at 12 - s.at 14)),
   W n (R (s.at 13 - s.at 15))]

/-- IADST16, assignment 8: `x` (41_kernels R152). Lanes 0, 1, 4, 5, 8, 9, 12, 13 of `x` are kept. -/
def iadst16Stage8 (n : Nat) (x : Vec) : Vec :=
  let t2 := -C 16 * (x.at 2 + x.at 3)
  let t3 := C 16 * (x.at 2 - x.at 3)
  let t6 := C 16 * (x.at 6 + x.at 7)
  let t7 := C 16 * (-x.at 6 + x.at 7)
  let t10 := C 16 * (x.at 10 + x.at 11)
  let t11 := C 16 * (-x.at 10 + x.at 11)
  let t14 := -C 16 * (x.at 14 + x.at 15)
  let t15 := C 16 * (x.at 14 - x.at 15)
  [x.at 0, x.at 1, W n (R t2), W n (R t3), x.at 4, x.at 5, W n (R t6), W n (R t7), x.at 8, x.at 9,
   W n (R t10), W n (R t11), x.at 12, x.at 13, W n (R t14), W n (R t15)]

/-- IADST16, assignment 9: the output `Y` (41_kernels R152). -/
def iadst16Stage9 (n : Nat) (x : Vec) : Vec :=
  [W n (x.at 0), W n (-x.at 8), W n (x.at 12), W n (-x.at 4), W n (x.at 6), W n (x.at 14), W n (x.at 10),
   W n (x.at 2), W n (x.at 3), W n (x.at 11), W n (x.at 15), W n (x.at 7), W n (x.at 5), W n (-x.at 13),
   W n (x.at 9), W n (-x.at 1)]

/-- IADST16 (41_kernels R152): the 16-point inverse ADST; the products are summed exactly and rounded once. -/
def iadst16 (n : Nat) (X : Vec) : Vec :=
  let x := iadst16Stage1 X
  let s := iadst16Stage2 x
  let x := iadst16Stage3 n s
  let s := iadst16Stage4 x
  let x := iadst16Stage5 n s
  let s := iadst16Stage6 x
  let x := iadst16Stage7 n s
  let x := iadst16Stage8 n x
  iadst16Stage9 n x

/-- IHALFRIGHT32 (41_kernels R153): the second input half scaled by 4, then IDCT16 of the first half scaled by √2. -/
def ihalfright32 (n : Nat) (X : Vec) : Vec :=
  let h : Vec := (List.range 16).map (fun i => W n (R (X.at i * SQRT2)))
  let g := idct16 n h
  (List.range 16).map (fun i => W n (X.at (16 + i) * 4)) ++ (List.range 16).map (fun i => g.at i)

/-- IIDTX4 (41_kernels R154). -/
def iidtx4 (n : Nat) (X : Vec) : Vec := (List.range 4).map (fun i => W n (R (X.at i * SQRT2)))

/-- IIDTX8 (41_kernels R155). -/
def iidtx8 (n : Nat) (X : Vec) : Vec := (List.range 8).map (fun i => W n (X.at i * 2))

/-- IIDTX16 (41_kernels R156). -/
def iidtx16 (n : Nat) (X : Vec) : Vec := (List.range 16).map (fun i => W n (R (X.at i * 2 * SQRT2)))

/-- IIDTX32 (41_kernels R157). -/
def iidtx32 (n : Nat) (X : Vec) : Vec := (List.range 32).map (fun i => W n (X.at i * 4))

/-- IWHT4 (41_kernels R158): the bare butterfly, without the lossless pre-shift. -/
def iwht4 (n : Nat) (X : Vec) : Vec :=
  let a1 := X.at 0
  let c1 := X.at 1
  let d1 := X.at 2
  let b1 := X.at 3
  let a1 := a1 + c1
  let d1 := d1 - b1
  let e1 := asr (a1 - d1) 1
  let b1 := e1 - b1
  let c1 := e1 - c1
  let a1 := a1 - b1
  let d1 := d1 + c1
  [W n a1, W n b1, W n c1, W n d1]

/-- The kernel a KID names (30_encoding R108), as a function of the wrap width and the input. -/
def kernel : KernelId → Nat → Vec → Vec
  | .idct4 => idct4
  | .idct8 => idct8
  | .idct16 => idct16
  | .idct32 => idct32
  | .iadst4 => iadst4
  | .iadst8 => iadst8
  | .iadst16 => iadst16
  | .ihalfright32 => ihalfright32
  | .iidtx4 => iidtx4
  | .iidtx8 => iidtx8
  | .iidtx16 => iidtx16
  | .iidtx32 => iidtx32
  | .iwht4 => iwht4

end Sys2Proof.Machine
end

