-- ==== Sys2Proof/Machine/Kern1d.lean ====
section
/-!
DEFINITION. The KERN1D family (41_kernels R144): one kernel run on VIN[0..N-1], its output stored in VOUT[0..N-1].
-/

namespace Sys2Proof.Machine

/-- The VOUT lanes a kernel's output writes: `VOUT[k] <- Y[k]` for k < N, as 32-bit two's complement (41_kernels R144). -/
def laneWrites (size : Nat) (y : Vec) : List (Nat × Word) :=
  (List.range size).map (fun k => (k, BitVec.ofInt 32 (y.at k)))

/-- KERN1D of a kernel `K` of size N (41_kernels R144): BAD_BITDEPTH, then UNWRITTEN for an unwritten input lane, then
`VOUT[0..N-1] <- K(W(VIN[0..N-1]), bd)`. -/
def runKernel (size : Nat) (K : Nat → Vec → Vec) (bdsel : BitVec 2) (s : State) : Except Cause State := do
  let bd ← checkBitDepth s.params bdsel
  let lanes ← kernelInput s size
  let n := wrapBits s.params bd
  return { s with vout := s.vout.writeAll (laneWrites size (K n (wrapWords n lanes))) }

/-- KERN1D.IDCT4 (41_kernels R146). -/
def execKernIdct4 (bdsel : BitVec 2) (s : State) : Host.Outcome State Fault Refusal :=
  conclude (.kernIdct4 bdsel) s (runKernel 4 idct4 bdsel s)

/-- KERN1D.IDCT8 (41_kernels R147). -/
def execKernIdct8 (bdsel : BitVec 2) (s : State) : Host.Outcome State Fault Refusal :=
  conclude (.kernIdct8 bdsel) s (runKernel 8 idct8 bdsel s)

/-- KERN1D.IDCT16 (41_kernels R148). -/
def execKernIdct16 (bdsel : BitVec 2) (s : State) : Host.Outcome State Fault Refusal :=
  conclude (.kernIdct16 bdsel) s (runKernel 16 idct16 bdsel s)

/-- KERN1D.IDCT32 (41_kernels R149). -/
def execKernIdct32 (bdsel : BitVec 2) (s : State) : Host.Outcome State Fault Refusal :=
  conclude (.kernIdct32 bdsel) s (runKernel 32 idct32 bdsel s)

/-- KERN1D.IADST4 (41_kernels R150). -/
def execKernIadst4 (bdsel : BitVec 2) (s : State) : Host.Outcome State Fault Refusal :=
  conclude (.kernIadst4 bdsel) s (runKernel 4 iadst4 bdsel s)

/-- KERN1D.IADST8 (41_kernels R151). -/
def execKernIadst8 (bdsel : BitVec 2) (s : State) : Host.Outcome State Fault Refusal :=
  conclude (.kernIadst8 bdsel) s (runKernel 8 iadst8 bdsel s)

/-- KERN1D.IADST16 (41_kernels R152). -/
def execKernIadst16 (bdsel : BitVec 2) (s : State) : Host.Outcome State Fault Refusal :=
  conclude (.kernIadst16 bdsel) s (runKernel 16 iadst16 bdsel s)

/-- KERN1D.IHALFRIGHT32 (41_kernels R153). -/
def execKernIhalfright32 (bdsel : BitVec 2) (s : State) : Host.Outcome State Fault Refusal :=
  conclude (.kernIhalfright32 bdsel) s (runKernel 32 ihalfright32 bdsel s)

/-- KERN1D.IIDTX4 (41_kernels R154). -/
def execKernIidtx4 (bdsel : BitVec 2) (s : State) : Host.Outcome State Fault Refusal :=
  conclude (.kernIidtx4 bdsel) s (runKernel 4 iidtx4 bdsel s)

/-- KERN1D.IIDTX8 (41_kernels R155). -/
def execKernIidtx8 (bdsel : BitVec 2) (s : State) : Host.Outcome State Fault Refusal :=
  conclude (.kernIidtx8 bdsel) s (runKernel 8 iidtx8 bdsel s)

/-- KERN1D.IIDTX16 (41_kernels R156). -/
def execKernIidtx16 (bdsel : BitVec 2) (s : State) : Host.Outcome State Fault Refusal :=
  conclude (.kernIidtx16 bdsel) s (runKernel 16 iidtx16 bdsel s)

/-- KERN1D.IIDTX32 (41_kernels R157). -/
def execKernIidtx32 (bdsel : BitVec 2) (s : State) : Host.Outcome State Fault Refusal :=
  conclude (.kernIidtx32 bdsel) s (runKernel 32 iidtx32 bdsel s)

/-- KERN1D.IWHT4 (41_kernels R158). -/
def execKernIwht4 (bdsel : BitVec 2) (s : State) : Host.Outcome State Fault Refusal :=
  conclude (.kernIwht4 bdsel) s (runKernel 4 iwht4 bdsel s)

end Sys2Proof.Machine
end

