-- ==== Sys2Proof/Machine/Transform.lean ====
section
/-!
DEFINITION. The 2-D dispatch of the RECON family (42_dispatch R200 to R217, R226): the class table, the separable
transform, the residuals, the eob premise, and the write-back shared by all RECON commands.
-/

namespace Sys2Proof.Machine

/-- The 1-D transform classes (42_dispatch R201). -/
inductive TxClass where
  | dct | adst | idtx
  deriving DecidableEq, Repr

/-- The column (vertical) class of a TxType (42_dispatch R201). -/
def columnClass : TxType → TxClass
  | .dctDct => .dct
  | .adstDct => .adst
  | .dctAdst => .dct
  | .adstAdst => .adst
  | .flipadstDct => .adst
  | .dctFlipadst => .dct
  | .flipadstFlipadst => .adst
  | .adstFlipadst => .adst
  | .flipadstAdst => .adst
  | .idtx => .idtx
  | .vDct => .dct
  | .hDct => .idtx
  | .vAdst => .adst
  | .hAdst => .idtx
  | .vFlipadst => .adst
  | .hFlipadst => .idtx

/-- The row (horizontal) class of a TxType (42_dispatch R201). -/
def rowClass : TxType → TxClass
  | .dctDct => .dct
  | .adstDct => .dct
  | .dctAdst => .adst
  | .adstAdst => .adst
  | .flipadstDct => .dct
  | .dctFlipadst => .adst
  | .flipadstFlipadst => .adst
  | .adstFlipadst => .adst
  | .flipadstAdst => .adst
  | .idtx => .idtx
  | .vDct => .idtx
  | .hDct => .dct
  | .vAdst => .idtx
  | .hAdst => .adst
  | .vFlipadst => .idtx
  | .hFlipadst => .adst

/-- flipUD of a TxType (42_dispatch R201, R208). -/
def flipUD : TxType → Bool
  | .flipadstDct | .flipadstFlipadst | .flipadstAdst | .vFlipadst => true
  | .dctDct | .adstDct | .dctAdst | .adstAdst | .dctFlipadst | .adstFlipadst | .idtx | .vDct | .hDct | .vAdst
  | .hAdst | .hFlipadst => false

/-- flipLR of a TxType (42_dispatch R201, R208). -/
def flipLR : TxType → Bool
  | .dctFlipadst | .flipadstFlipadst | .adstFlipadst | .hFlipadst => true
  | .dctDct | .adstDct | .dctAdst | .adstAdst | .flipadstDct | .flipadstAdst | .idtx | .vDct | .hDct | .vAdst
  | .hAdst | .vFlipadst => false

/-- `kernel(class, N)` (42_dispatch R202). -/
def classKernel : TxClass → TxSize → KernelId
  | .dct, .s4 => .idct4
  | .dct, .s8 => .idct8
  | .dct, .s16 => .idct16
  | .dct, .s32 => .idct32
  | .adst, .s4 => .iadst4
  | .adst, .s8 => .iadst8
  | .adst, .s16 => .iadst16
  | .adst, .s32 => .ihalfright32
  | .idtx, .s4 => .iidtx4
  | .idtx, .s8 => .iidtx8
  | .idtx, .s16 => .iidtx16
  | .idtx, .s32 => .iidtx32

/-- Entry `[r][c]` of an N x N block held in raster order, cell `r*N + c` (00_scope R18). -/
def cell (N : Nat) (X : Vec) (r c : Nat) : Int := X.at (r * N + c)

/-- The N x N block with given entries, in raster order (00_scope R18). -/
def block (N : Nat) (f : Nat → Nat → Int) : Vec := (List.range (N * N)).map (fun k => f (k / N) (k % N))

/-- The row pass: `T[r] = rowK(Xc[r][0..N-1])` (42_dispatch R205). -/
def rowPass (N : Nat) (rowK : Vec → Vec) (X : Vec) : List Vec :=
  (List.range N).map (fun r => rowK ((List.range N).map (fun c => cell N X r c)))

/-- The column pass: column c of the result is `colK` of column c of the rows (42_dispatch R205). The result lists the
columns. -/
def colPass (N : Nat) (colK : Vec → Vec) (T : List Vec) : List Vec :=
  (List.range N).map (fun c => colK ((List.range N).map (fun r => (T.getD r []).at c)))

/-- The separable transform `Y`, rows first (42_dispatch R205). -/
def separable (N : Nat) (rowK colK : Vec → Vec) (X : Vec) : Vec :=
  let cols := colPass N colK (rowPass N rowK X)
  block N (fun i c => (cols.getD c []).at i)

/-- `SHIFT(N)` (42_dispatch R206). -/
def finalShift : TxSize → Nat
  | .s4 => 4
  | .s8 => 5
  | .s16 => 6
  | .s32 => 6

/-- A flip of an index: `N - 1 - i` when the flag is set (42_dispatch R208). -/
def flipIndex (flip : Bool) (N i : Nat) : Nat := if flip then N - 1 - i else i

/-- The residual of the general path (42_dispatch R207): the separable transform of the TxType's kernels, flipped and
rounded by the final shift. -/
def generalResidual (t : TxType) (sz : TxSize) (n : Nat) (X : Vec) : Vec :=
  let N := sz.side
  let Y := separable N (kernel (classKernel (rowClass t) sz) n) (kernel (classKernel (columnClass t) sz) n) X
  block N (fun i j => RPT (cell N Y (flipIndex (flipUD t) N i) (flipIndex (flipLR t) N j)) (finalShift sz))

/-- The shift of the identity fast path (42_dispatch R210). -/
def idtxShift : TxSize → Nat
  | .s4 => 3
  | .s8 => 3
  | .s16 => 3
  | .s32 => 2

/-- The residual of the identity fast path (42_dispatch R210). -/
def idtxResidual (sz : TxSize) (X : Vec) : Vec := block sz.side (fun i j => asr (cell sz.side X i j) (idtxShift sz))

/-- The residual of a TxType (42_dispatch R216), in raster order. -/
def reconResidual (t : TxType) (sz : TxSize) (n : Nat) (X : Vec) : Vec :=
  match t with
  | .idtx => idtxResidual sz X
  | _ => generalResidual t sz n X

/-- The residual of RECON.WHT (42_dispatch R226): IWHT4 on rows of the pre-shifted coefficients, then on columns, with no
rounding and no flip. -/
def whtResidual (n : Nat) (X : Vec) : Vec :=
  separable 4 (iwht4 n) (iwht4 n) (block 4 (fun r c => asr (cell 4 X r c) UNIT_QUANT_SHIFT))

/-- The side of the zone of RECON.DCT_DCT that may be nonzero at a given eob (42_dispatch R211). -/
def dctZone (sz : TxSize) (eob : Nat) : Nat :=
  if eob = 0 then 0
  else if eob = 1 then 1
  else
    match sz with
    | .s4 => 4
    | .s8 => if eob ≤ 12 then 4 else 8
    | .s16 => if eob ≤ 10 then 4 else 16
    | .s32 => if eob ≤ 34 then 8 else 32

/-- The side of the zone of RECON.WHT that may be nonzero at a given eob (42_dispatch R211). -/
def whtZone (eob : Nat) : Nat :=
  if eob = 0 then 0
  else if eob = 1 then 1
  else 4

/-- The premise of 42_dispatch R211 for a zone of side `z`: every coefficient outside it is zero. -/
def zonePremise (N z : Nat) (X : Vec) : Bool :=
  (List.range (N * N)).all (fun k => (k / N < z && k % N < z) || cell N X (k / N) (k % N) == 0)

/-- The premise of a RECON.<TxType>: only DCT_DCT has one (42_dispatch R211). -/
def eobPremise (t : TxType) (sz : TxSize) (eob : Nat) (X : Vec) : Bool :=
  match t with
  | .dctDct => zonePremise sz.side (dctZone sz eob) X
  | _ => true

/-- The sample written for a prediction and a residual: `clip(P + Res, 0, maxPix(bd))` (42_dispatch R209). -/
def reconSample (bd : BitDepth) (pred res : Int) : Sample := BitVec.ofInt 16 (clip (pred + res) 0 (maxPix bd))

/-- The operands of a RECON that pass checks (4) to (7) of 42_dispatch R203. -/
structure ReconInput where
  block : DestBlock
  coefs : List Word
  preds : List Sample
  deriving DecidableEq, Repr

/-- Checks (4) to (7) of 42_dispatch R203, in order. -/
def reconInput (sz : TxSize) (s : State) : Except Cause ReconInput := do
  let b ← checkDest s sz
  let coefs ← coefInput s sz
  let preds ← predInput s b sz
  return ⟨b, coefs, preds⟩

/-- The cells a RECON writes, in raster order: rule R209's samples (42_dispatch R209, 20_memory R73). -/
def sampleWrites (sz : TxSize) (bd : BitDepth) (x : ReconInput) (res : Vec) : List (Nat × Sample) :=
  (List.range sz.area).map (fun k =>
    (destAddr x.block (k / sz.side) (k % sz.side),
      reconSample bd (predValue bd (x.preds.getD k 0#16)) (res.at k)))

/-- The cells a RECON writes when its eob premise fails: one draw from [0, maxPix(bd)] each (42_dispatch R211). -/
def drawWrites (sz : TxSize) (bd : BitDepth) (b : DestBlock) (count : Nat) : List (Nat × Sample) :=
  (List.range sz.area).map (fun k => (destAddr b (k / sz.side) (k % sz.side), drawSample bd (count + k)))

/-- The end of a RECON that passed its checks (42_dispatch R211, R214): the block's cells are written, with rule R209's
samples if the premise holds and with draws if not, and COEF[0..N²-1] become unwritten. -/
def writeBack (sz : TxSize) (bd : BitDepth) (x : ReconInput) (premise : Bool) (res : Vec) (s : State) : State :=
  if premise then
    { s with pix := s.pix.writeAll (sampleWrites sz bd x res), coef := s.coef.eraseBelow sz.area }
  else
    { s with
      pix := s.pix.writeAll (drawWrites sz bd x.block s.drawCount), coef := s.coef.eraseBelow sz.area,
      drawCount := s.drawCount + sz.area }

/-- RECON.<TxType> (42_dispatch R203, R216). -/
def runRecon (t : TxType) (sz : TxSize) (bdsel : BitVec 2) (eob : BitVec 11) (s : State) : Except Cause State := do
  checkTxType s.params t
  let bd ← checkBitDepth s.params bdsel
  checkEob sz eob
  let x ← reconInput sz s
  let n := wrapBits s.params bd
  let X := wrapWords n x.coefs
  return writeBack sz bd x (eobPremise t sz eob.toNat X) (reconResidual t sz n X) s

/-- RECON.WHT (42_dispatch R203, R226). -/
def runWht (bdsel : BitVec 2) (eob : BitVec 11) (s : State) : Except Cause State := do
  let bd ← checkBitDepth s.params bdsel
  checkEob .s4 eob
  let x ← reconInput .s4 s
  let n := wrapBits s.params bd
  let X := wrapWords n x.coefs
  return writeBack .s4 bd x (zonePremise 4 (whtZone eob.toNat) X) (whtResidual n X) s

end Sys2Proof.Machine
end

