-- ==== Sys2Proof/Machine/Recon.lean ====
section
/-!
DEFINITION. The RECON family: the 16 commands RECON.<TxType> (42_dispatch R230 to R245), each the shared semantics of
R216 with its own row of R201's table, and the lossless RECON.WHT (R226).
-/

namespace Sys2Proof.Machine

/-- RECON.DCT_DCT (42_dispatch R230). -/
def execReconDctDct (sz : TxSize) (bdsel : BitVec 2) (eob : BitVec 11) (s : State) : Host.Outcome State Fault Refusal :=
  conclude (.reconDctDct sz bdsel eob) s (runRecon .dctDct sz bdsel eob s)

/-- RECON.ADST_DCT (42_dispatch R231). -/
def execReconAdstDct (sz : TxSize) (bdsel : BitVec 2) (eob : BitVec 11) (s : State) : Host.Outcome State Fault Refusal :=
  conclude (.reconAdstDct sz bdsel eob) s (runRecon .adstDct sz bdsel eob s)

/-- RECON.DCT_ADST (42_dispatch R232). -/
def execReconDctAdst (sz : TxSize) (bdsel : BitVec 2) (eob : BitVec 11) (s : State) : Host.Outcome State Fault Refusal :=
  conclude (.reconDctAdst sz bdsel eob) s (runRecon .dctAdst sz bdsel eob s)

/-- RECON.ADST_ADST (42_dispatch R233). -/
def execReconAdstAdst (sz : TxSize) (bdsel : BitVec 2) (eob : BitVec 11) (s : State) : Host.Outcome State Fault Refusal :=
  conclude (.reconAdstAdst sz bdsel eob) s (runRecon .adstAdst sz bdsel eob s)

/-- RECON.FLIPADST_DCT (42_dispatch R234). -/
def execReconFlipadstDct (sz : TxSize) (bdsel : BitVec 2) (eob : BitVec 11) (s : State) : Host.Outcome State Fault Refusal :=
  conclude (.reconFlipadstDct sz bdsel eob) s (runRecon .flipadstDct sz bdsel eob s)

/-- RECON.DCT_FLIPADST (42_dispatch R235). -/
def execReconDctFlipadst (sz : TxSize) (bdsel : BitVec 2) (eob : BitVec 11) (s : State) : Host.Outcome State Fault Refusal :=
  conclude (.reconDctFlipadst sz bdsel eob) s (runRecon .dctFlipadst sz bdsel eob s)

/-- RECON.FLIPADST_FLIPADST (42_dispatch R236). -/
def execReconFlipadstFlipadst (sz : TxSize) (bdsel : BitVec 2) (eob : BitVec 11) (s : State) : Host.Outcome State Fault Refusal :=
  conclude (.reconFlipadstFlipadst sz bdsel eob) s (runRecon .flipadstFlipadst sz bdsel eob s)

/-- RECON.ADST_FLIPADST (42_dispatch R237). -/
def execReconAdstFlipadst (sz : TxSize) (bdsel : BitVec 2) (eob : BitVec 11) (s : State) : Host.Outcome State Fault Refusal :=
  conclude (.reconAdstFlipadst sz bdsel eob) s (runRecon .adstFlipadst sz bdsel eob s)

/-- RECON.FLIPADST_ADST (42_dispatch R238). -/
def execReconFlipadstAdst (sz : TxSize) (bdsel : BitVec 2) (eob : BitVec 11) (s : State) : Host.Outcome State Fault Refusal :=
  conclude (.reconFlipadstAdst sz bdsel eob) s (runRecon .flipadstAdst sz bdsel eob s)

/-- RECON.IDTX (42_dispatch R239). -/
def execReconIdtx (sz : TxSize) (bdsel : BitVec 2) (eob : BitVec 11) (s : State) : Host.Outcome State Fault Refusal :=
  conclude (.reconIdtx sz bdsel eob) s (runRecon .idtx sz bdsel eob s)

/-- RECON.V_DCT (42_dispatch R240). -/
def execReconVDct (sz : TxSize) (bdsel : BitVec 2) (eob : BitVec 11) (s : State) : Host.Outcome State Fault Refusal :=
  conclude (.reconVDct sz bdsel eob) s (runRecon .vDct sz bdsel eob s)

/-- RECON.H_DCT (42_dispatch R241). -/
def execReconHDct (sz : TxSize) (bdsel : BitVec 2) (eob : BitVec 11) (s : State) : Host.Outcome State Fault Refusal :=
  conclude (.reconHDct sz bdsel eob) s (runRecon .hDct sz bdsel eob s)

/-- RECON.V_ADST (42_dispatch R242). -/
def execReconVAdst (sz : TxSize) (bdsel : BitVec 2) (eob : BitVec 11) (s : State) : Host.Outcome State Fault Refusal :=
  conclude (.reconVAdst sz bdsel eob) s (runRecon .vAdst sz bdsel eob s)

/-- RECON.H_ADST (42_dispatch R243). -/
def execReconHAdst (sz : TxSize) (bdsel : BitVec 2) (eob : BitVec 11) (s : State) : Host.Outcome State Fault Refusal :=
  conclude (.reconHAdst sz bdsel eob) s (runRecon .hAdst sz bdsel eob s)

/-- RECON.V_FLIPADST (42_dispatch R244). -/
def execReconVFlipadst (sz : TxSize) (bdsel : BitVec 2) (eob : BitVec 11) (s : State) : Host.Outcome State Fault Refusal :=
  conclude (.reconVFlipadst sz bdsel eob) s (runRecon .vFlipadst sz bdsel eob s)

/-- RECON.H_FLIPADST (42_dispatch R245). -/
def execReconHFlipadst (sz : TxSize) (bdsel : BitVec 2) (eob : BitVec 11) (s : State) : Host.Outcome State Fault Refusal :=
  conclude (.reconHFlipadst sz bdsel eob) s (runRecon .hFlipadst sz bdsel eob s)

/-- RECON.WHT (42_dispatch R226). -/
def execReconWht (bdsel : BitVec 2) (eob : BitVec 11) (s : State) : Host.Outcome State Fault Refusal :=
  conclude (.reconWht bdsel eob) s (runWht bdsel eob s)

end Sys2Proof.Machine
end

