-- ==== Sys2Proof/Machine/Scan.lean ====
section
/-!
DEFINITION. The scan family (43_scan_context): INIT builds the tables, GETSCAN selects a scan, SCANLOOKUP reads one
entry, CTX computes the context of one position.
-/

namespace Sys2Proof.Machine

/-- `iscan[rc]`, the scan position of raster index `rc`: the source's reverse lookup `find_in_scan` (43_scan_context
R264; log entry 14). -/
def buildIscan (scan : List Nat) (N : Nat) : List Nat :=
  (List.range (N * N)).map (fun rc => scan.idxOf rc)

/-- The two neighbours of scan position `n` (43_scan_context R264), `none` for the spec's −1. -/
def buildNeighbours (kind : ScanKind) (N : Nat) (scan : List Nat) (n : Nat) : Option Nat × Option Nat :=
  if n = 0 then (none, none)
  else
    let rc := scan.getD n 0
    let i := rc / N
    let j := rc % N
    let above := scan.idxOf ((i - 1) * N + j)
    let left := scan.idxOf (i * N + j - 1)
    if 0 < i ∧ 0 < j then
      match kind with
      | .col => (some above, none)
      | .row => (some left, none)
      | .default => (some above, some left)
    else if 0 < i then (some above, none)
    else (some left, none)

/-- `BUILD(scan, N, kind)` (43_scan_context R264). -/
def buildTable (scan : List Nat) (N : Nat) (kind : ScanKind) : BuiltTable where
  iscan := buildIscan scan N
  nbr := (List.range (N * N)).map (buildNeighbours kind N scan)

/-- The tables INIT builds for every pair that SCAN_ROM defines (43_scan_context R263). -/
def buildTables (rom : ScanRom) : ScanTables :=
  PerScan.ofFn (fun id => buildTable (rom.get id) id.size.side id.kind)

/-- INIT (43_scan_context R263): a second INIT changes nothing. -/
def runInit (s : State) : Except Cause State :=
  match s.tables with
  | some _ => .ok s
  | none => .ok { s with tables := some (buildTables s.scanRom) }

/-- INIT (43_scan_context R263). -/
def execInit (s : State) : Host.Outcome State Fault Refusal := conclude .init s (runInit s)

/-- The checks of GETSCAN's LOSSLESS field: LOSSLESS_ILLEGAL at a size other than 4x4 (30_encoding R115, 43_scan_context
R268). -/
def checkLosslessScan (lossless : Bool) (sz : TxSize) : Except Cause Unit :=
  if lossless ∧ sz ≠ .s4 then .error .losslessIllegal else .ok ()

/-- The intra mode of GETSCAN: none is read for an inter block, and BAD_INTRA_MODE for a reserved MODE of an intra block
(30_encoding R110, R115, 43_scan_context R267). -/
def checkMode (isInter : Bool) (mode : BitVec 4) : Except Cause (Option IntraMode) :=
  if isInter then .ok none
  else
    match IntraMode.ofField mode with
    | some m => .ok (some m)
    | none => .error .badIntraMode

/-- The scan kind GETSCAN selects: the first case that applies (43_scan_context R267). -/
def selectKind (map : IntraScanMap) (sz : TxSize) (chroma lossless : Bool) (mode : Option IntraMode) : ScanKind :=
  match mode with
  | none => .default
  | some m =>
    if lossless then .default
    else if sz = .s32 then .default
    else if chroma then .default
    else map.kind m

/-- SCAN_SEL's value `{kind, TXSZ}` (10_state R39, 43_scan_context R268). -/
def scanSelWord (kind : ScanKind) (sz : TxSize) : BitVec 4 := kind.toField ++ sz.toField

/-- GETSCAN (43_scan_context R268). -/
def runGetscan (sz : TxSize) (chroma isInter lossless : Bool) (mode : BitVec 4) (s : State) : Except Cause State := do
  checkLosslessScan lossless sz
  let m ← checkMode isInter mode
  let _ ← checkTables s
  return { s with scanSel := some (scanSelWord (selectKind s.params.intraMap sz chroma lossless m) sz) }

/-- GETSCAN (43_scan_context R268). -/
def execGetscan (sz : TxSize) (chroma isInter lossless : Bool) (mode : BitVec 4) (s : State) :
    Host.Outcome State Fault Refusal :=
  conclude (.getscan sz chroma isInter lossless mode) s (runGetscan sz chroma isInter lossless mode s)

/-- A neighbour as a RES register holds it: −1 for an absent one (10_state R41, 43_scan_context R270). -/
def neighbourWord : Option Nat → Word
  | some m => BitVec.ofNat 32 m
  | none => BitVec.ofInt 32 (-1)

/-- SCANLOOKUP (43_scan_context R270). -/
def runScanlookup (sz : TxSize) (kind : BitVec 2) (pos : BitVec 11) (s : State) : Except Cause State := do
  let id ← checkScan sz kind
  let p ← checkPos sz pos
  let tables ← checkTables s
  let table := tables.get id
  let nb := table.nbr.getD p (none, none)
  return { s with
    res0 := some (BitVec.ofNat 32 ((s.scanRom.get id).getD p 0))
    res1 := some (BitVec.ofNat 32 (table.iscan.getD p 0))
    res2 := some (neighbourWord nb.1)
    res3 := some (neighbourWord nb.2) }

/-- SCANLOOKUP (43_scan_context R270). -/
def execScanlookup (sz : TxSize) (kind : BitVec 2) (pos : BitVec 11) (s : State) :
    Host.Outcome State Fault Refusal :=
  conclude (.scanlookup sz kind pos) s (runScanlookup sz kind pos s)

/-- The token class of a cell CTX reads, once all its cells are known to be written: TOKEN_RANGE for 6 and 7
(10_state R45, 43_scan_context R271). -/
def checkToken (t : BitVec 3) : Except Cause Nat := if t.toNat ≤ 5 then .ok t.toNat else .error .tokenRange

/-- The context of a position from its neighbours (43_scan_context R271): `(1 + TOK[a] + TOK[b]) >> 1`, or `TOK[a]` where
neighbour 1 is absent; UNWRITTEN before TOKEN_RANGE. (Neighbour 0 is absent at position 0 only; log entry 15.) -/
def contextOf (tok : Memory 3) : Option Nat × Option Nat → Except Cause Nat
  | (some a, some b) => do
    let ta ← orUnwritten (tok.read a)
    let tb ← orUnwritten (tok.read b)
    let x ← checkToken ta
    let y ← checkToken tb
    return (1 + x + y) / 2
  | (some a, none) => do
    let ta ← orUnwritten (tok.read a)
    checkToken ta
  | (none, _) => .error .unwritten

/-- CTX (43_scan_context R271). -/
def runCtx (sz : TxSize) (kind : BitVec 2) (pos : BitVec 11) (s : State) : Except Cause State := do
  let id ← checkScan sz kind
  let n ← checkPos sz pos
  let tables ← checkTables s
  if n = 0 then
    return { s with ctxOut := some 0#3 }
  else
    let c ← contextOf s.tok ((tables.get id).nbr.getD n (none, none))
    return { s with ctxOut := some (BitVec.ofNat 3 c) }

/-- CTX (43_scan_context R271). -/
def execCtx (sz : TxSize) (kind : BitVec 2) (pos : BitVec 11) (s : State) : Host.Outcome State Fault Refusal :=
  conclude (.ctx sz kind pos) s (runCtx sz kind pos s)

end Sys2Proof.Machine
end

