-- ==== Sys2Proof/Machine/Dispatch.lean ====
section
/-!
DEFINITION. The dispatch: one arm per command, each one call of that command's meaning.
-/

namespace Sys2Proof.Machine

def exec (i : Instr) (s : State) : Host.Outcome State Fault Refusal :=
  match i with
  | .reconDctDct sz bdsel eob => Sys2Proof.Machine.execReconDctDct sz bdsel eob s
  | .reconAdstDct sz bdsel eob => Sys2Proof.Machine.execReconAdstDct sz bdsel eob s
  | .reconDctAdst sz bdsel eob => Sys2Proof.Machine.execReconDctAdst sz bdsel eob s
  | .reconAdstAdst sz bdsel eob => Sys2Proof.Machine.execReconAdstAdst sz bdsel eob s
  | .reconFlipadstDct sz bdsel eob => Sys2Proof.Machine.execReconFlipadstDct sz bdsel eob s
  | .reconDctFlipadst sz bdsel eob => Sys2Proof.Machine.execReconDctFlipadst sz bdsel eob s
  | .reconFlipadstFlipadst sz bdsel eob => Sys2Proof.Machine.execReconFlipadstFlipadst sz bdsel eob s
  | .reconAdstFlipadst sz bdsel eob => Sys2Proof.Machine.execReconAdstFlipadst sz bdsel eob s
  | .reconFlipadstAdst sz bdsel eob => Sys2Proof.Machine.execReconFlipadstAdst sz bdsel eob s
  | .reconIdtx sz bdsel eob => Sys2Proof.Machine.execReconIdtx sz bdsel eob s
  | .reconVDct sz bdsel eob => Sys2Proof.Machine.execReconVDct sz bdsel eob s
  | .reconHDct sz bdsel eob => Sys2Proof.Machine.execReconHDct sz bdsel eob s
  | .reconVAdst sz bdsel eob => Sys2Proof.Machine.execReconVAdst sz bdsel eob s
  | .reconHAdst sz bdsel eob => Sys2Proof.Machine.execReconHAdst sz bdsel eob s
  | .reconVFlipadst sz bdsel eob => Sys2Proof.Machine.execReconVFlipadst sz bdsel eob s
  | .reconHFlipadst sz bdsel eob => Sys2Proof.Machine.execReconHFlipadst sz bdsel eob s
  | .reconWht bdsel eob => Sys2Proof.Machine.execReconWht bdsel eob s
  | .kernIdct4 bdsel => Sys2Proof.Machine.execKernIdct4 bdsel s
  | .kernIdct8 bdsel => Sys2Proof.Machine.execKernIdct8 bdsel s
  | .kernIdct16 bdsel => Sys2Proof.Machine.execKernIdct16 bdsel s
  | .kernIdct32 bdsel => Sys2Proof.Machine.execKernIdct32 bdsel s
  | .kernIadst4 bdsel => Sys2Proof.Machine.execKernIadst4 bdsel s
  | .kernIadst8 bdsel => Sys2Proof.Machine.execKernIadst8 bdsel s
  | .kernIadst16 bdsel => Sys2Proof.Machine.execKernIadst16 bdsel s
  | .kernIhalfright32 bdsel => Sys2Proof.Machine.execKernIhalfright32 bdsel s
  | .kernIidtx4 bdsel => Sys2Proof.Machine.execKernIidtx4 bdsel s
  | .kernIidtx8 bdsel => Sys2Proof.Machine.execKernIidtx8 bdsel s
  | .kernIidtx16 bdsel => Sys2Proof.Machine.execKernIidtx16 bdsel s
  | .kernIidtx32 bdsel => Sys2Proof.Machine.execKernIidtx32 bdsel s
  | .kernIwht4 bdsel => Sys2Proof.Machine.execKernIwht4 bdsel s
  | .init => Sys2Proof.Machine.execInit s
  | .getscan sz chroma isInter lossless mode => Sys2Proof.Machine.execGetscan sz chroma isInter lossless mode s
  | .scanlookup sz kind pos => Sys2Proof.Machine.execScanlookup sz kind pos s
  | .ctx sz kind pos => Sys2Proof.Machine.execCtx sz kind pos s

end Sys2Proof.Machine
end

