-- ==== Sys2Proof/Machine/HostPort.lean ====
section
/-!
DEFINITION. The host side of the engine: a command arriving at CMD (10_state R34), and one access of the host in the
one total order of accesses (20_memory R79).
-/

namespace Sys2Proof.Machine

/-- A command word on an engine that is not faulted: it is decoded and run, or raises the cause of the decode check it
fails (30_encoding R114). -/
def runWord (w : Word) (s : State) : Host.Outcome State Fault Refusal :=
  match decode s.params w with
  | .ok i => exec i s
  | .error c => .next (raise c w s)

/-- A host write to CMD: the command runs to completion; while STATUS.FAULT = 1 the write is ignored (10_state R34,
60_exceptions R303). -/
def writeCmd (w : Word) (s : State) : Host.Outcome State Fault Refusal :=
  match s.fault with
  | some _ => .next s
  | none => runWord w s

/-- A host write to a register address (10_state R33). -/
def hostWrite (addr : Nat) (w : Word) (s : State) : Host.Outcome State Fault Refusal :=
  match hostReg addr with
  | .cmd => writeCmd w s
  | _ => .next (hostStore s addr w)

/-- An access to PIX cell `a`, which must exist: cells 0 to PIX_SIZE − 1 (20_memory R70; log entry 16). -/
def onPixCell (a : Nat) (s t : State) : Host.Outcome State Fault Refusal :=
  if a < s.params.pixSize then .next t else .fault (.pixOutOfRange a)

/-- One access of the host side, on the state in which it is no longer pending. -/
def hostAccess (x : HostAccess) (s : State) : Host.Outcome State Fault Refusal :=
  match x with
  | .write addr w => hostWrite addr w s
  | .read addr => .next { s with readData := hostRead s addr }
  | .pixWrite a v => onPixCell a s { s with pix := s.pix.write a v }
  | .pixRead a => onPixCell a s { s with readData := (s.pix.read a).map (fun v => v.setWidth 32) }
  | .reset => .next (platformReset s)
  | .sharedDraw a bd =>
    onPixCell a s { s with pix := s.pix.write a (drawSample bd s.drawCount), drawCount := s.drawCount + 1 }

/-- The next access of the host, or an idle engine, which holds its state (60_exceptions R316). -/
def hostStep (s : State) : Host.Outcome State Fault Refusal :=
  match s.host with
  | [] => .next s
  | x :: rest => hostAccess x { s with host := rest }

/-- The state in which the host's next access is a write to CMD of a command word: the low `nbits` bits of `w`, with
zeros above. -/
def queueCommand (s : State) (nbits w : Nat) : State :=
  { s with host := .write 0 (BitVec.ofNat 32 (w % 2 ^ nbits)) :: s.host }

end Sys2Proof.Machine
end

