-- ==== Sys2Proof/Machine/Step.lean ====
section
/-!
DEFINITION. One step of the machine: the next access of the host side. A host write to CMD runs one command (10_state
R31, R34).
-/

namespace Sys2Proof.Machine

/-- One step: the host's next access, or nothing if there is none (log entry 1). -/
def step (s : State) : Host.Outcome State Fault Refusal := hostStep s

/-- `s` with a command word as the host's next access, a write to CMD. -/
def State.withFetchWord (s : State) (nbits w : Nat) : State := queueCommand s nbits w

end Sys2Proof.Machine
end

