-- ==== Sys2Proof/Machine/Assembler.lean ====
section
/-!
DEFINITION. The assembler syntax (30_encoding R117): a mnemonic and `key=value` operands in any order, with the
defaults the rule gives. A line is taken after tokenising; comments and host accesses are not commands.
-/

namespace Sys2Proof

/-- A mnemonic of the assembler (30_encoding R117). -/
inductive Mnemonic where
  | recon (t : TxType)
  | reconWht
  | kern1d (k : KernelId)
  | init
  | getscan
  | scanlookup
  | ctx
  deriving DecidableEq, Repr

/-- A `key=value` operand (30_encoding R117): `sz=`, `bd=`, `eob=`, `plane=` (true for UV), `inter=`, `lossless=`,
`mode=`, `kind=`, `pos=`. -/
inductive AsmOperand where
  | sz (v : TxSize)
  | bd (v : BitDepth)
  | eob (v : Nat)
  | plane (chroma : Bool)
  | inter (v : Bool)
  | lossless (v : Bool)
  | mode (v : IntraMode)
  | kind (v : ScanKind)
  | pos (v : Nat)
  deriving DecidableEq, Repr

/-- The operand keys a mnemonic takes (30_encoding R117). -/
def asmTakes (m : Mnemonic) (o : AsmOperand) : Bool :=
  match m, o with
  | .recon _, .sz _ | .recon _, .bd _ | .recon _, .eob _ => true
  | .reconWht, .bd _ | .reconWht, .eob _ => true
  | .kern1d _, .bd _ => true
  | .getscan, .sz _ | .getscan, .plane _ | .getscan, .inter _ | .getscan, .lossless _ | .getscan, .mode _ => true
  | .scanlookup, .sz _ | .scanlookup, .kind _ | .scanlookup, .pos _ => true
  | .ctx, .sz _ | .ctx, .kind _ | .ctx, .pos _ => true
  | _, _ => false

/-- A bit depth written as BDSEL (30_encoding R106). -/
def BitDepth.toField : BitDepth → BitVec 2
  | .d8 => 0#2
  | .d10 => 1#2
  | .d12 => 2#2

/-- The value of `sz=`, which has no default. -/
def asmSz : List AsmOperand → Option TxSize
  | [] => none
  | .sz v :: _ => some v
  | _ :: rest => asmSz rest

/-- The value of `bd=`, default 8. -/
def asmBd : List AsmOperand → BitDepth
  | [] => .d8
  | .bd v :: _ => v
  | _ :: rest => asmBd rest

/-- The value of `eob=`, with the mnemonic's default. -/
def asmEob (default : Nat) : List AsmOperand → Nat
  | [] => default
  | .eob v :: _ => v
  | _ :: rest => asmEob default rest

/-- The value of `plane=`, default Y. -/
def asmPlane : List AsmOperand → Bool
  | [] => false
  | .plane v :: _ => v
  | _ :: rest => asmPlane rest

/-- The value of `inter=`, default 0. -/
def asmInter : List AsmOperand → Bool
  | [] => false
  | .inter v :: _ => v
  | _ :: rest => asmInter rest

/-- The value of `lossless=`, default 0. -/
def asmLossless : List AsmOperand → Bool
  | [] => false
  | .lossless v :: _ => v
  | _ :: rest => asmLossless rest

/-- The value of `mode=`, default DC_PRED. -/
def asmMode : List AsmOperand → IntraMode
  | [] => .dcPred
  | .mode v :: _ => v
  | _ :: rest => asmMode rest

/-- The value of `kind=`, default DEFAULT. -/
def asmKind : List AsmOperand → ScanKind
  | [] => .default
  | .kind v :: _ => v
  | _ :: rest => asmKind rest

/-- The value of `pos=`, which has no default. -/
def asmPos : List AsmOperand → Option Nat
  | [] => none
  | .pos v :: _ => some v
  | _ :: rest => asmPos rest

/-- A number written in an 11-bit field; none if it does not fit. -/
def asmField (v : Nat) : Option (BitVec 11) := if v < 2 ^ 11 then some (BitVec.ofNat 11 v) else none

/-- The command a line names (30_encoding R117); none for an operand the mnemonic does not take, a missing operand that
has no default, or a number that does not fit its field. -/
def assemble (m : Mnemonic) (ops : List AsmOperand) : Option Instr :=
  if ops.all (asmTakes m) then
    match m with
    | .recon t => do
      let sz ← asmSz ops
      let eob ← asmField (asmEob sz.area ops)
      return t.instr sz (asmBd ops).toField eob
    | .reconWht => do
      let eob ← asmField (asmEob TxSize.s4.area ops)
      return .reconWht (asmBd ops).toField eob
    | .kern1d k => some (k.instr (asmBd ops).toField)
    | .init => some .init
    | .getscan => do
      let sz ← asmSz ops
      return .getscan sz (asmPlane ops) (asmInter ops) (asmLossless ops) (asmMode ops).toField
    | .scanlookup => do
      let sz ← asmSz ops
      let pos ← asmPos ops
      let f ← asmField pos
      return .scanlookup sz (asmKind ops).toField f
    | .ctx => do
      let sz ← asmSz ops
      let pos ← asmPos ops
      let f ← asmField pos
      return .ctx sz (asmKind ops).toField f
  else none

end Sys2Proof
end

