-- ==== Sys2Proof/Safety.lean ====
section
/-!
DEFINITION. What claims about the machine are stated in: the invariant every reachable state has, and the classes of
commands and accesses that whole-machine claims name.
-/

namespace Sys2Proof.Machine

/-- Every cell of a memory lies below a bound. -/
abbrev Memory.below {w : Nat} (m : Memory w) (bound : Nat) : Prop := ∀ c ∈ m, c.1 < bound

/-- The memories are in canonical form and hold only cells that exist (10_state R33, 20_memory R70). -/
structure MemoriesOk (s : State) : Prop where
  vinWf : s.vin.wf
  voutWf : s.vout.wf
  coefWf : s.coef.wf
  tokWf : s.tok.wf
  pixWf : s.pix.wf
  vinBelow : s.vin.below 32
  voutBelow : s.vout.below 32
  coefBelow : s.coef.below 1024
  tokBelow : s.tok.below 1024
  pixBelow : s.pix.below s.params.pixSize

/-- The registers hold only values the spec lets them hold: FAULT_CMD is 0 while no fault is recorded (10_state R36),
SCAN_SEL names a scan that exists (43_scan_context R268), and CTX_OUT is 0 to 5 (10_state R40). -/
structure RegistersOk (s : State) : Prop where
  faultCmd : s.fault = none → s.faultCmd = 0#32
  scanSel : ∀ v, s.scanSel = some v → ∃ sz kind, v = scanSelWord kind sz ∧ ScanId.of sz kind ≠ none
  ctxOut : ∀ v, s.ctxOut = some v → v.toNat ≤ 5

/-- The scan store: SCAN_ROM is one the spec allows (43_scan_context R262), and the tables are not built or are what
BUILD gives (10_state R46, 43_scan_context R263). -/
structure TablesOk (s : State) : Prop where
  rom : ScanRomOk s.scanRom
  built : ∀ t, s.tables = some t → t = buildTables s.scanRom

/-- The invariant of the machine. -/
structure Inv (s : State) : Prop where
  memories : MemoriesOk s
  registers : RegistersOk s
  tables : TablesOk s

/-- The TxType exists on an engine with these parameters (30_encoding R105). -/
abbrev TypeOk (p : Params) (t : TxType) : Prop := t.extended = true → p.extTx = true

/-- BDSEL selects the bit depth `bd`, and the engine supports it (30_encoding R106). -/
abbrev DepthOk (p : Params) (bdsel : BitVec 2) (bd : BitDepth) : Prop :=
  BitDepth.ofField bdsel = some bd ∧ (bd = .d8 ∨ p.hbd = true)

/-- The address of cell (i, j) of the destination block at DST_BASE with DST_STRIDE (20_memory R71). -/
def blockAddr (base stride : Word) (i j : Nat) : Nat := base.toNat + i * stride.toNat + j

/-- Checks (4) to (7) of 42_dispatch R203 pass: the destination is set, its stride is enough, its last cell exists, and
every coefficient and every prediction cell of the block is written. -/
structure BlockReady (s : State) (sz : TxSize) (base stride : Word) : Prop where
  dstBase : s.dstBase = some base
  dstStride : s.dstStride = some stride
  wide : sz.side ≤ stride.toNat
  inPix : blockAddr base stride (sz.side - 1) (sz.side - 1) < s.params.pixSize
  coefs : ∀ k < sz.area, s.coef.read k ≠ none
  preds : ∀ i < sz.side, ∀ j < sz.side, s.pix.read (blockAddr base stride i j) ≠ none

/-- `W(COEF[k])` at a wrap width: the coefficient a RECON works on (42_dispatch R204). Only claimed of written cells. -/
def coefInt (s : State) (n k : Nat) : Int := W n ((s.coef.read k).getD 0#32).toInt

/-- The prediction sample at address `a` (20_memory R72). Only claimed of written cells. -/
def predInt (s : State) (bd : BitDepth) (a : Nat) : Int := predValue bd ((s.pix.read a).getD 0#16)

/-- `W(VIN[k])` at a wrap width: the lane a kernel works on (41_kernels R144). Only claimed of written lanes. -/
def laneInt (s : State) (n k : Nat) : Int := W n ((s.vin.read k).getD 0#32).toInt

/-- The coefficients of the block outside its corner of side `z` are zero: the premise of 42_dispatch R211. -/
def ZeroOutside (s : State) (sz : TxSize) (n z : Nat) : Prop :=
  ∀ r < sz.side, ∀ c < sz.side, ¬(r < z ∧ c < z) → coefInt s n (r * sz.side + c) = 0

/-- No register or memory cell stands at the address (10_state R33): it is reserved. -/
abbrev ReservedAddr (addr : Nat) : Prop :=
  addr = 0x0007 ∨ (0x000C ≤ addr ∧ addr < 0x0100) ∨ (0x0140 ≤ addr ∧ addr < 0x1000) ∨
    (0x1400 ≤ addr ∧ addr < 0x2000) ∨ 0x2400 ≤ addr

/-- The host access is a write to CMD: the one access that can run a command (20_memory R76). -/
def HostAccess.isCommand : HostAccess → Bool
  | .write addr _ => hostReg addr == .cmd
  | _ => false

/-- The host access may change PIX by itself: a host PIX write or a shared-cell draw (20_memory R70, R83). -/
def HostAccess.writesPix : HostAccess → Bool
  | .pixWrite _ _ => true
  | .sharedDraw _ _ => true
  | _ => false

/-- The commands that reach PIX: the RECON family (20_memory R70, 42_dispatch R200). -/
def isRecon : Instr → Bool
  | .reconDctDct _ _ _ | .reconAdstDct _ _ _ | .reconDctAdst _ _ _ | .reconAdstAdst _ _ _
  | .reconFlipadstDct _ _ _ | .reconDctFlipadst _ _ _ | .reconFlipadstFlipadst _ _ _ | .reconAdstFlipadst _ _ _
  | .reconFlipadstAdst _ _ _ | .reconIdtx _ _ _ | .reconVDct _ _ _ | .reconHDct _ _ _ | .reconVAdst _ _ _
  | .reconHAdst _ _ _ | .reconVFlipadst _ _ _ | .reconHFlipadst _ _ _ | .reconWht _ _ => true
  | .kernIdct4 _ | .kernIdct8 _ | .kernIdct16 _ | .kernIdct32 _ | .kernIadst4 _ | .kernIadst8 _ | .kernIadst16 _
  | .kernIhalfright32 _ | .kernIidtx4 _ | .kernIidtx8 _ | .kernIidtx16 _ | .kernIidtx32 _ | .kernIwht4 _ | .init
  | .getscan _ _ _ _ _ | .scanlookup _ _ _ | .ctx _ _ _ => false

end Sys2Proof.Machine
end

