-- ==== Sys2Proof/Certificates/Slice0/Obligations.lean ====
section
/-!
DEFINITION. The statements about the machine, each from the numbered rules its docstring names.
-/

open Sys2Proof Sys2Proof.Machine

/-! ## Encoding -/

/-- R118: each assembly line assembles to a command, the command's word is the one the table gives, and that word decodes
to the command. -/
def Obligations.WorkedEncodings : Prop :=
  ∀ row ∈ ([
      (.recon .dctDct, [.sz .s4, .eob 1, .bd .d8], 0x00002001#32, .reconDctDct .s4 0#2 1#11),
      (.recon .idtx, [.sz .s8, .eob 64, .bd .d8], 0x00080251#32, .reconIdtx .s8 0#2 64#11),
      (.reconWht, [.eob 16, .bd .d8], 0x00020401#32, .reconWht 0#2 16#11),
      (.recon .adstDct, [.sz .s32, .eob 1024, .bd .d12], 0x00801071#32, .reconAdstDct .s32 2#2 1024#11),
      (.kern1d .idct4, [.bd .d8], 0x00000002#32, .kernIdct4 0#2),
      (.kern1d .ihalfright32, [.bd .d10], 0x00000872#32, .kernIhalfright32 1#2),
      (.init, [], 0x00000003#32, .init),
      (.getscan, [.sz .s4, .plane false, .inter false, .lossless false, .mode .hPred], 0x00000404#32,
        .getscan .s4 false false false 2#4),
      (.getscan, [.sz .s4, .plane false, .inter true, .mode .hPred], 0x00000484#32, .getscan .s4 false true false 2#4),
      (.scanlookup, [.sz .s4, .kind .default, .pos 3], 0x00000305#32, .scanlookup .s4 0#2 3#11),
      (.ctx, [.sz .s4, .kind .default, .pos 3], 0x00000306#32, .ctx .s4 0#2 3#11)] :
      List (Mnemonic × List AsmOperand × Word × Instr)),
    assemble row.1 row.2.1 = some row.2.2.2 ∧ encode row.2.2.2 = row.2.2.1 ∧
      decode Config.params row.2.2.1 = .ok row.2.2.2

/-- R102, R103, R110 to R112: decoding the word of a command gives the command back, with every operand at every value its
field can hold, the reserved ones too, for every command that exists on the engine. -/
def Obligations.DecodeOfEncode : Prop :=
  ∀ p : Params,
    (∀ t sz bdsel eob, TypeOk p t → decode p (encode (t.instr sz bdsel eob)) = .ok (t.instr sz bdsel eob)) ∧
    (∀ bdsel eob, decode p (encode (.reconWht bdsel eob)) = .ok (.reconWht bdsel eob)) ∧
    (∀ (k : KernelId) bdsel, decode p (encode (k.instr bdsel)) = .ok (k.instr bdsel)) ∧
    decode p (encode .init) = .ok .init ∧
    (∀ sz chroma isInter lossless mode,
      decode p (encode (.getscan sz chroma isInter lossless mode)) = .ok (.getscan sz chroma isInter lossless mode)) ∧
    (∀ sz kind pos, decode p (encode (.scanlookup sz kind pos)) = .ok (.scanlookup sz kind pos)) ∧
    (∀ sz kind pos, decode p (encode (.ctx sz kind pos)) = .ok (.ctx sz kind pos))

/-- The decoder drops no bit: a word that decodes is the word of the command it decodes to. -/
def Obligations.EncodeOfDecode : Prop :=
  ∀ p w i, decode p w = .ok i → encode i = w

/-- R114: a word that decodes matches exactly one row of the opcode table, the row of the command it decodes to. On an
engine with the extended types, the words that match a row are exactly the words that decode. -/
def Obligations.OneTableRow : Prop :=
  (∀ p w i, decode p w = .ok i → opTable.filter (fun r => r.matches w) = [opRow i]) ∧
  (∀ p w, p.extTx = true → (∃ r ∈ opTable, r.matches w = true) → ∃ i, decode p w = .ok i)

/-- R101 and the reserved bits of R115: on an engine that is not faulted, a word with a reserved opcode, or with a reserved
bit of its format set, raises ILLEGAL_COMMAND. -/
def Obligations.ReservedWordsFault : Prop :=
  ∀ (s : State) (w : Word), s.fault = none →
    (field w 0 4 = 0#4 ∨ 7 ≤ (field w 0 4).toNat ∨
      (field w 0 4 = 1#4 ∧ field w 24 8 ≠ 0#8) ∨
      (field w 0 4 = 2#4 ∧ (field w 13 19 ≠ 0#19 ∨ field w 9 2 ≠ 0#2)) ∨
      (field w 0 4 = 3#4 ∧ field w 4 28 ≠ 0#28) ∨
      (field w 0 4 = 4#4 ∧ field w 13 19 ≠ 0#19) ∨
      ((field w 0 4 = 5#4 ∨ field w 0 4 = 6#4) ∧ field w 19 13 ≠ 0#13)) →
    runWord w s = .next { s with fault := some .illegalCommand, faultCmd := w }

/-- R115: the words that no row of the opcode table names, with their reserved bits clear: a type that does not exist raises
BAD_TXTYPE; LOSSLESS with another type or size than DCT_DCT at 4x4 raises LOSSLESS_ILLEGAL, after the type check; KID 13
to 31 raises BAD_KERNEL. -/
def Obligations.UnnamedWordsFault : Prop :=
  ∀ (s : State) (w : Word), s.fault = none →
    (field w 0 4 = 1#4 → field w 24 8 = 0#8 → 4 ≤ (field w 6 4).toNat → s.params.extTx = false →
      runWord w s = .next { s with fault := some .badTxType, faultCmd := w }) ∧
    (field w 0 4 = 1#4 → field w 24 8 = 0#8 → ((field w 6 4).toNat < 4 ∨ s.params.extTx = true) →
      field w 10 1 = 1#1 → (field w 6 4 ≠ 0#4 ∨ field w 4 2 ≠ 0#2) →
      runWord w s = .next { s with fault := some .losslessIllegal, faultCmd := w }) ∧
    (field w 0 4 = 2#4 → field w 13 19 = 0#19 → field w 9 2 = 0#2 → 13 ≤ (field w 4 5).toNat →
      runWord w s = .next { s with fault := some .badKernel, faultCmd := w })

/-- R111, R269: the fields of a SCANLOOKUP or CTX word are SCAN_SEL shifted left by 4, under the position. -/
def Obligations.ScanSelFormsFields : Prop :=
  ∀ (sz : TxSize) (kind : ScanKind) (pos : BitVec 11),
    encode (.scanlookup sz kind.toField pos) =
      (pos.setWidth 32 <<< 8) ||| ((scanSelWord kind sz).setWidth 32 <<< 4) ||| 5#32 ∧
    encode (.ctx sz kind.toField pos) =
      (pos.setWidth 32 <<< 8) ||| ((scanSelWord kind sz).setWidth 32 <<< 4) ||| 6#32

/-! ## Running commands, faults and reset -/

/-- R34, on the list of pending host accesses of log entry 1 (the model's choice): when the host's next access writes a word to CMD on an engine that is not faulted, the step is exactly the
decoded command on the state in which that access is done, or takes ContractViolation with the cause of the decode check
the word fails. The state `withFetchWord` places a command in steps to that command's own outcome. -/
def Obligations.StepRunsDecodedCommand : Prop :=
  (∀ (s : State) rest w i, s.fault = none → s.host = .write 0x0000 w :: rest → decode s.params w = .ok i →
    step s = exec i { s with host := rest }) ∧
  (∀ (s : State) rest w c, s.fault = none → s.host = .write 0x0000 w :: rest → decode s.params w = .error c →
    step s = .next { s with host := rest, fault := some c, faultCmd := w }) ∧
  (∀ (s : State) (w : Word) i, s.fault = none → decode s.params w = .ok i →
    step (s.withFetchWord 32 w.toNat) = exec i s)

/-- R303, on the list of pending host accesses of log entry 1 (the model's choice): while STATUS.FAULT = 1, a host write to CMD is ignored; host reads of every register and host writes to the other
registers work as on an engine that is not faulted. -/
def Obligations.FaultedEngineIgnoresCommands : Prop :=
  ∀ (s : State) rest, s.fault ≠ none →
    (∀ w, s.host = .write 0x0000 w :: rest → step s = .next { s with host := rest }) ∧
    (∀ addr w, addr ≠ 0x0000 → s.host = .write addr w :: rest →
      step s = .next (hostStore { s with host := rest } addr w)) ∧
    (∀ addr, s.host = .read addr :: rest → step s = .next { s with host := rest, readData := hostRead s addr })

/-- R301: faults are precise. A command word that faults an engine leaves every register, operand memory, table and PIX
cell as it found them, apart from STATUS, which shows FAULT and the cause's code, and FAULT_CMD, which holds the word. -/
def Obligations.FaultsArePrecise : Prop :=
  ∀ (s t : State) (w : Word), s.fault = none → runWord w s = .next t → t.fault ≠ none →
    ∃ c, t = { s with fault := some c, faultCmd := w } ∧ statusFault t = true ∧ statusCause t = causeCode c

/-- R300: no command stops the machine: every command word answers a next state, in every state. A step stops only on a
host access to a PIX cell that does not exist (log entry 16, the model's choice). -/
def Obligations.NoCommandStops : Prop :=
  (∀ (s : State) w, ∃ t, writeCmd w s = .next t) ∧
  (∀ (s : State) r, step s ≠ .refused r) ∧
  (∀ (s : State) f, step s = .fault f → ∃ a, f = .pixOutOfRange a ∧ s.params.pixSize ≤ a ∧
    ((∃ v, s.host.head? = some (.pixWrite a v)) ∨ s.host.head? = some (.pixRead a) ∨
      ∃ bd, s.host.head? = some (.sharedDraw a bd)))

/-- R304, R340: only the platform's reset clears STATUS.FAULT, STATUS.CAUSE and FAULT_CMD, and it always completes; after
it the tables are not ready. (The host's next access is the head of the list of log entry 1, the model's choice.) -/
def Obligations.OnlyResetClearsFault : Prop :=
  (∀ (s t : State) c, s.fault = some c → step s = .next t → s.host.head? ≠ some .reset →
    t.fault = some c ∧ t.faultCmd = s.faultCmd ∧ statusFault t = true ∧ statusCause t = causeCode c) ∧
  (∀ (s : State) rest, s.host = .reset :: rest → ∀ t, t = platformReset { s with host := rest } →
    step s = .next t ∧ statusFault t = false ∧ statusCause t = 0x00#8 ∧ t.faultCmd = 0#32 ∧ t.tablesReady = false)

/-- R49: after reset, of the machine as it starts or of any state, every element of state has its reset value; the reset of
a state leaves SCAN_ROM and PIX as they are. -/
def Obligations.ResetValues : Prop :=
  (∀ t : State, (t = State.reset ∨ ∃ s, t = platformReset s) →
    statusWord t = 0x00000000#32 ∧ t.faultCmd = 0x00000000#32 ∧ t.tablesReady = false ∧ t.tables = none ∧
    t.dstBase = none ∧ t.dstStride = none ∧ t.scanSel = none ∧ t.ctxOut = none ∧
    t.res0 = none ∧ t.res1 = none ∧ t.res2 = none ∧ t.res3 = none ∧
    (∀ k, t.vin.read k = none) ∧ (∀ k, t.vout.read k = none) ∧ (∀ k, t.coef.read k = none) ∧
    (∀ k, t.tok.read k = none)) ∧
  (∀ s t : State, t = platformReset s → t.params = s.params ∧ t.scanRom = s.scanRom ∧ t.pix = s.pix)

/-- R35, R302: the fields of STATUS: FAULT, READY, CAUSE with the code of each cause, and zeros. -/
def Obligations.StatusLayout : Prop :=
  (∀ s : State, (statusWord s).getLsbD 0 = s.fault.isSome ∧ (statusWord s).getLsbD 1 = s.tables.isSome ∧
    field (statusWord s) 2 6 = 0#6 ∧ field (statusWord s) 16 16 = 0#16 ∧
    (s.fault = none → field (statusWord s) 8 8 = 0x00#8) ∧
    (∀ c, s.fault = some c → field (statusWord s) 8 8 =
      match c with
      | .illegalCommand => 0x01#8
      | .badTxType => 0x02#8
      | .badBitDepth => 0x03#8
      | .losslessIllegal => 0x04#8
      | .eobRange => 0x05#8
      | .tablesNotReady => 0x06#8
      | .badKernel => 0x07#8
      | .badScanKind => 0x08#8
      | .posRange => 0x09#8
      | .badIntraMode => 0x0A#8
      | .unwritten => 0x0B#8
      | .tokenRange => 0x0C#8
      | .dstRange => 0x0D#8))

/-- R115, R305: a command with a field outside its legal range changes nothing but STATUS and FAULT_CMD, and its cause is
one of the causes of the field checks. -/
def Obligations.IllFormedCommandsFault : Prop :=
  ∀ (i : Instr) (s : State), s.fault = none → i.WellFormed s.params = false →
    ∃ c ∈ [Cause.badTxType, .badBitDepth, .eobRange, .losslessIllegal, .badIntraMode, .badScanKind, .posRange],
      exec i s = .next { s with fault := some c, faultCmd := encode i }

/-! ## The machine as a whole -/

/-- The invariant: the memories are in canonical form and hold only cells that exist, the registers hold only values the
spec lets them hold, and the tables are what BUILD gives. Every step keeps it. -/
def Obligations.StepKeepsInvariant : Prop :=
  ∀ s t : State, Inv s → step s = .next t → Inv t

/-- The invariant holds at reset. -/
def Obligations.InvariantAtReset : Prop := Inv State.reset

/-- R37, R38, R42, R45, R9: no command writes DST_BASE, DST_STRIDE, VIN or TOK, and none changes the parameters, SCAN_ROM or
the host's side. -/
def Obligations.CommandsLeaveOperands : Prop :=
  ∀ (i : Instr) (s t : State), exec i s = .next t →
    t.dstBase = s.dstBase ∧ t.dstStride = s.dstStride ∧ t.vin = s.vin ∧ t.tok = s.tok ∧
    t.params = s.params ∧ t.scanRom = s.scanRom ∧ t.host = s.host ∧ t.readData = s.readData

/-- R39 to R44, R46, R347: each result is written by its own family only. Only GETSCAN writes SCAN_SEL, only CTX writes
CTX_OUT, only SCANLOOKUP writes RES0 to RES3, only KERN1D writes VOUT, only INIT builds the tables, and only a RECON
changes COEF or PIX. -/
def Obligations.ResultOwners : Prop :=
  ∀ (i : Instr) (s t : State), exec i s = .next t →
    (t.scanSel ≠ s.scanSel → ∃ sz chroma isInter lossless mode, i = .getscan sz chroma isInter lossless mode) ∧
    (t.ctxOut ≠ s.ctxOut → ∃ sz kind pos, i = .ctx sz kind pos) ∧
    ((t.res0 ≠ s.res0 ∨ t.res1 ≠ s.res1 ∨ t.res2 ≠ s.res2 ∨ t.res3 ≠ s.res3) →
      ∃ sz kind pos, i = .scanlookup sz kind pos) ∧
    (t.vout ≠ s.vout → ∃ (k : KernelId) (bdsel : BitVec 2), i = k.instr bdsel) ∧
    (t.tables ≠ s.tables → i = .init ∧ s.tables = none) ∧
    ((t.coef ≠ s.coef ∨ t.pix ≠ s.pix ∨ t.drawCount ≠ s.drawCount) → isRecon i = true)

/-- R70: PIX changes only by the host's own writes, by a RECON, or by the shared-cell draw of R83. -/
def Obligations.PixWriters : Prop :=
  ∀ s t : State, step s = .next t → t.pix ≠ s.pix →
    (∃ x, s.host.head? = some x ∧ x.writesPix = true) ∨
    (∃ w i, s.host.head? = some (.write 0x0000 w) ∧ s.fault = none ∧ decode s.params w = .ok i ∧ isRecon i = true)

/-- R273: the tables are constant after INIT. Whatever the step, built tables stay as they are until a reset; and a scan
command's results depend only on SCAN_ROM, the tables and TOK. -/
def Obligations.TablesConstant : Prop :=
  (∀ (s t : State) T, s.tables = some T → step s = .next t → s.host.head? ≠ some .reset → t.tables = some T) ∧
  (∀ (s t : State), step s = .next t → t.scanRom = s.scanRom) ∧
  (∀ (s s' t t' : State) sz kind pos, s.tables = s'.tables → s.scanRom = s'.scanRom →
    exec (.scanlookup sz kind pos) s = .next t → exec (.scanlookup sz kind pos) s' = .next t' →
    s.fault = none → s'.fault = none → t.fault = t'.fault ∧
      (t.fault = none → t.res0 = t'.res0 ∧ t.res1 = t'.res1 ∧ t.res2 = t'.res2 ∧ t.res3 = t'.res3)) ∧
  (∀ (s s' t t' : State) sz kind pos, s.tables = s'.tables → s.tok = s'.tok →
    exec (.ctx sz kind pos) s = .next t → exec (.ctx sz kind pos) s' = .next t' →
    s.fault = none → s'.fault = none → t.fault = t'.fault ∧ (t.fault = none → t.ctxOut = t'.ctxOut))

/-! ## The host interface -/

/-- R316: between commands the engine is idle and holds its state: with no pending access of the host, a step is the same
state (log entry 1, the model's choice). -/
def Obligations.IdleHoldsState : Prop :=
  ∀ s : State, s.host = [] → step s = .next s

/-- R33, R34, R39, R45, R48, R76: what a host read of each address returns, and that a read changes nothing else. An
unwritten register or cell returns no value. -/
def Obligations.HostReads : Prop :=
  (∀ (s : State) rest addr, s.host = .read addr :: rest →
    step s = .next { s with host := rest, readData := hostRead s addr }) ∧
  (∀ s : State,
    hostRead s 0x0000 = some 0#32 ∧ hostRead s 0x0001 = some (statusWord s) ∧ hostRead s 0x0002 = some s.faultCmd ∧
    hostRead s 0x0003 = s.dstBase ∧ hostRead s 0x0004 = s.dstStride ∧
    hostRead s 0x0005 = s.scanSel.map (BitVec.zeroExtend 32) ∧
    hostRead s 0x0006 = s.ctxOut.map (BitVec.zeroExtend 32) ∧
    hostRead s 0x0008 = s.res0 ∧ hostRead s 0x0009 = s.res1 ∧ hostRead s 0x000A = s.res2 ∧
    hostRead s 0x000B = s.res3 ∧
    (∀ k < 32, hostRead s (0x0100 + k) = s.vin.read k ∧ hostRead s (0x0120 + k) = s.vout.read k) ∧
    (∀ k < 1024, hostRead s (0x1000 + k) = s.coef.read k ∧
      hostRead s (0x2000 + k) = (s.tok.read k).map (BitVec.zeroExtend 32)) ∧
    (∀ addr, ReservedAddr addr → hostRead s addr = some 0#32))

/-- R33, R45, R48: what a host write to each address other than CMD does, whatever STATUS.FAULT holds. -/
def Obligations.HostWrites : Prop :=
  ∀ (s : State) rest addr (v : Word), s.host = .write addr v :: rest →
    (addr = 0x0003 → step s = .next { s with host := rest, dstBase := some v }) ∧
    (addr = 0x0004 → step s = .next { s with host := rest, dstStride := some v }) ∧
    (∀ k < 32, addr = 0x0100 + k → ∃ m : Memory 32, step s = .next { s with host := rest, vin := m } ∧
      ∀ a, m.read a = if a = k then some v else s.vin.read a) ∧
    (∀ k < 1024, addr = 0x1000 + k → ∃ m : Memory 32, step s = .next { s with host := rest, coef := m } ∧
      ∀ a, m.read a = if a = k then some v else s.coef.read a) ∧
    (∀ k < 1024, addr = 0x2000 + k → ∃ m : Memory 3, step s = .next { s with host := rest, tok := m } ∧
      ∀ a, m.read a = if a = k then some (v.extractLsb' 0 3) else s.tok.read a) ∧
    ((addr ∈ [0x0001, 0x0002, 0x0005, 0x0006, 0x0008, 0x0009, 0x000A, 0x000B] ∨
        (0x0120 ≤ addr ∧ addr ≤ 0x013F) ∨ ReservedAddr addr) →
      step s = .next { s with host := rest })

/-- R70, R83: the host reads and writes the cells of PIX that exist; a shared-cell draw leaves a value in [0, maxPix].
An access to a cell that does not exist stops (log entry 16, the model's choice). -/
def Obligations.HostPixAccesses : Prop :=
  ∀ (s : State) rest a,
    (∀ v, s.host = .pixWrite a v :: rest → a < s.params.pixSize →
      ∃ m : Memory 16, step s = .next { s with host := rest, pix := m } ∧
        ∀ b, m.read b = if b = a then some v else s.pix.read b) ∧
    (s.host = .pixRead a :: rest → a < s.params.pixSize →
      step s = .next { s with host := rest, readData := (s.pix.read a).map (BitVec.zeroExtend 32) }) ∧
    (∀ bd, s.host = .sharedDraw a bd :: rest → a < s.params.pixSize →
      ∃ (m : Memory 16) (v : Sample), v.toNat ≤ 2 ^ bd.bits - 1 ∧
        step s = .next { s with host := rest, pix := m, drawCount := s.drawCount + 1 } ∧
        ∀ b, m.read b = if b = a then some v else s.pix.read b) ∧
    (∀ x, (x = .pixRead a ∨ (∃ v, x = .pixWrite a v) ∨ ∃ bd, x = .sharedDraw a bd) → s.host = x :: rest →
      s.params.pixSize ≤ a → step s = .fault (.pixOutOfRange a))

/-! ## Arithmetic primitives and kernels -/

/-- R12: RPT is the floor of `(x + 2^(n-1)) / 2^n`, which rounds a half up: `RPT(-8, 4) = 0` and `RPT(8, 4) = 1`. -/
def Obligations.RoundingShift : Prop :=
  (∀ (x : Int) (n : Nat), 1 ≤ n →
    RPT x n * 2 ^ n ≤ x + 2 ^ (n - 1) ∧ x + 2 ^ (n - 1) < (RPT x n + 1) * 2 ^ n) ∧
  (∀ (q : Int) (n : Nat), 1 ≤ n → RPT (q * 2 ^ n + 2 ^ (n - 1)) n = q + 1) ∧
  RPT (-8) 4 = 0 ∧ RPT 8 4 = 1

/-- R14: the wrap is the reduction modulo 2^n into the n-bit two's-complement range, never a saturation, at 16 bits for bit
depth 8 and at HBD_WRAP_BITS for 10 and 12. -/
def Obligations.WrapReduces : Prop :=
  (∀ (n : Nat) (x : Int), 0 < n →
    -(2 ^ (n - 1) : Int) ≤ W n x ∧ W n x < 2 ^ (n - 1) ∧ (W n x - x) % 2 ^ n = 0) ∧
  (∀ p : Params, wrapBits p .d8 = 16) ∧
  (∀ p : Params, p.hbdWrap = .fixed32 → wrapBits p .d10 = 32 ∧ wrapBits p .d12 = 32) ∧
  (∀ p : Params, p.hbdWrap = .bdPlus8 → wrapBits p .d10 = 18 ∧ wrapBits p .d12 = 20)

/-- R144: what every KERN1D does. With a legal bit depth and its lanes written it completes: VOUT[0..N-1] hold the kernel's
output for the wrapped lanes as 32-bit two's complement, the other lanes of VOUT are as before, and nothing else changes. -/
def Obligations.KernelCommandRuns : Prop :=
  ∀ (k : KernelId) (bdsel : BitVec 2) (bd : BitDepth) (s : State),
    DepthOk s.params bdsel bd → (∀ j < k.size, s.vin.read j ≠ none) →
    ∃ m : Memory 32, exec (k.instr bdsel) s = .next { s with vout := m } ∧
      (∀ j < k.size, m.read j = some (BitVec.ofInt 32
        ((kernel k (wrapBits s.params bd) ((List.range k.size).map (laneInt s (wrapBits s.params bd)))).at j))) ∧
      (∀ j, k.size ≤ j → m.read j = s.vout.read j)

/-- R144: where KERN1D traps: BAD_BITDEPTH first, then UNWRITTEN for an unwritten lane below N. -/
def Obligations.KernelCommandTraps : Prop :=
  ∀ (k : KernelId) (bdsel : BitVec 2) (s : State), s.fault = none →
    ((bdsel = 3#2 ∨ (bdsel ≠ 0#2 ∧ s.params.hbd = false)) →
      exec (k.instr bdsel) s = .next { s with fault := some .badBitDepth, faultCmd := encode (k.instr bdsel) }) ∧
    (∀ bd, DepthOk s.params bdsel bd → (∃ j < k.size, s.vin.read j = none) →
      exec (k.instr bdsel) s = .next { s with fault := some .unwritten, faultCmd := encode (k.instr bdsel) })

/-- R154 to R157: the identity kernels' results: √2 in Q14 at N = 4, 2 at N = 8, 2√2 rounded once at N = 16 and 4 at
N = 32. -/
def Obligations.IdentityKernels : Prop :=
  ∀ (bdsel : BitVec 2) (bd : BitDepth) (s : State), DepthOk s.params bdsel bd →
    ((∀ j < 4, s.vin.read j ≠ none) → ∃ m : Memory 32, exec (.kernIidtx4 bdsel) s = .next { s with vout := m } ∧
      ∀ j < 4, m.read j = some (BitVec.ofInt 32
        (W (wrapBits s.params bd) (R (laneInt s (wrapBits s.params bd) j * 23170))))) ∧
    ((∀ j < 8, s.vin.read j ≠ none) → ∃ m : Memory 32, exec (.kernIidtx8 bdsel) s = .next { s with vout := m } ∧
      ∀ j < 8, m.read j = some (BitVec.ofInt 32
        (W (wrapBits s.params bd) (laneInt s (wrapBits s.params bd) j * 2)))) ∧
    ((∀ j < 16, s.vin.read j ≠ none) → ∃ m : Memory 32, exec (.kernIidtx16 bdsel) s = .next { s with vout := m } ∧
      ∀ j < 16, m.read j = some (BitVec.ofInt 32
        (W (wrapBits s.params bd) (R (laneInt s (wrapBits s.params bd) j * 2 * 23170))))) ∧
    ((∀ j < 32, s.vin.read j ≠ none) → ∃ m : Memory 32, exec (.kernIidtx32 bdsel) s = .next { s with vout := m } ∧
      ∀ j < 32, m.read j = some (BitVec.ofInt 32
        (W (wrapBits s.params bd) (laneInt s (wrapBits s.params bd) j * 4))))

/-- R153: the first half of IHALFRIGHT32's output is the second input half scaled by 4, and the second half is IDCT16 of the
first input half scaled by √2. -/
def Obligations.HalfRightComposition : Prop :=
  ∀ (n : Nat) (X : Vec), X.length = 32 →
    (ihalfright32 n X).take 16 = (X.drop 16).map (fun x => W n (x * 4)) ∧
    (ihalfright32 n X).drop 16 = idct16 n ((X.take 16).map (fun x => W n (R (x * 23170))))

/-- R147: the even half of IDCT8 is IDCT4 on the even inputs, and likewise of IDCT16 and IDCT32: each output pair is that
half's lane plus and minus a term of the odd inputs alone. -/
def Obligations.EvenHalves : Prop :=
  (∃ odd : Nat → Vec → Nat → Int, ∀ n X i, i < 4 → ∀ E, E = idct4 n ((List.range 4).map (fun k => X.at (2 * k))) →
    ∀ o, o = odd n ((List.range 4).map (fun k => X.at (2 * k + 1))) i →
    (idct8 n X).at i = W n (E.at i + o) ∧ (idct8 n X).at (7 - i) = W n (E.at i - o)) ∧
  (∃ odd : Nat → Vec → Nat → Int, ∀ n X i, i < 8 → ∀ E, E = idct8 n ((List.range 8).map (fun k => X.at (2 * k))) →
    ∀ o, o = odd n ((List.range 8).map (fun k => X.at (2 * k + 1))) i →
    (idct16 n X).at i = W n (E.at i + o) ∧ (idct16 n X).at (15 - i) = W n (E.at i - o)) ∧
  (∃ odd : Nat → Vec → Nat → Int, ∀ n X i, i < 16 → ∀ E, E = idct16 n ((List.range 16).map (fun k => X.at (2 * k))) →
    ∀ o, o = odd n ((List.range 16).map (fun k => X.at (2 * k + 1))) i →
    (idct32 n X).at i = W n (E.at i + o) ∧ (idct32 n X).at (31 - i) = W n (E.at i - o))

/-- The corner cases of R146 to R158: every kernel maps an all-zero input to an all-zero output. -/
def Obligations.KernelsMapZeroToZero : Prop :=
  ∀ (k : KernelId) (n : Nat), kernel k n (List.replicate k.size 0) = List.replicate k.size 0

/-- R145, R209: every value a kernel returns lies in the range of the wrap. -/
def Obligations.KernelOutputsInRange : Prop :=
  ∀ (k : KernelId) (n : Nat) (X : Vec), 0 < n → ∀ y ∈ kernel k n X, -(2 ^ (n - 1) : Int) ≤ y ∧ y < 2 ^ (n - 1)

/-- R147 and the DC-only argument of R212: a DC-only input of IDCT4, IDCT8, IDCT16 or IDCT32 gives N equal outputs
`W(R(c * C[16]))`. -/
def Obligations.DcOnlyKernel : Prop :=
  ∀ k ∈ [KernelId.idct4, .idct8, .idct16, .idct32], ∀ (n : Nat) (c : Int),
    kernel k n (c :: List.replicate (k.size - 1) 0) = List.replicate k.size (W n (R (c * 11585)))

/-! ## Reconstruction -/

/-- R71: with DST_STRIDE at least N, the N² addresses of the destination block are distinct, and none is past the last. -/
def Obligations.BlockAddressesDistinct : Prop :=
  ∀ (sz : TxSize) (base stride : Word), sz.side ≤ stride.toNat →
    ∀ i < sz.side, ∀ j < sz.side,
      blockAddr base stride i j ≤ blockAddr base stride (sz.side - 1) (sz.side - 1) ∧
      ∀ i' < sz.side, ∀ j' < sz.side, blockAddr base stride i j = blockAddr base stride i' j' → i = i' ∧ j = j'

/-- R214, R73: a RECON that passes every check of R203 completes. It leaves in every cell of its block a value of the bit
depth, changes no other PIX cell, makes COEF[0..N²-1] unwritten and leaves the rest of COEF, and changes no other state.
(`drawCount` is the model's own counter of free values.) All 17 commands. -/
def Obligations.ReconCompletes : Prop :=
  ∀ (s : State) (sz : TxSize) (bdsel : BitVec 2) (bd : BitDepth) (eob : BitVec 11) (base stride : Word) (i : Instr),
    ((∃ t, TypeOk s.params t ∧ i = t.instr sz bdsel eob) ∨ (sz = .s4 ∧ i = .reconWht bdsel eob)) →
    DepthOk s.params bdsel bd → eob.toNat ≤ sz.area → BlockReady s sz base stride →
    ∃ (m : Memory 16) (cs : Memory 32) (d : Nat),
      exec i s = .next { s with pix := m, coef := cs, drawCount := d } ∧
      (∀ r < sz.side, ∀ c < sz.side, ∃ v, m.read (blockAddr base stride r c) = some v ∧ v.toNat ≤ 2 ^ bd.bits - 1) ∧
      (∀ a, (∀ r < sz.side, ∀ c < sz.side, a ≠ blockAddr base stride r c) → m.read a = s.pix.read a) ∧
      (∀ k < sz.area, cs.read k = none) ∧ (∀ k, sz.area ≤ k → cs.read k = s.coef.read k)

/-- R204 to R209, R216: the samples of every RECON.<TxType> but IDTX. With the premise of R211 where the type is DCT_DCT,
cell (i, j) becomes `clip(P + RPT(Y[fr(i)][fc(j)], SHIFT(N)), 0, maxPix)`, where Y is the column kernel of the row kernel
of the wrapped coefficients. -/
def Obligations.ReconWritesTransform : Prop :=
  ∀ (s : State) (t : TxType) (sz : TxSize) (bdsel : BitVec 2) (bd : BitDepth) (eob : BitVec 11) (base stride : Word),
    t ≠ .idtx → TypeOk s.params t → DepthOk s.params bdsel bd → eob.toNat ≤ sz.area → BlockReady s sz base stride →
    (t = .dctDct → ZeroOutside s sz (wrapBits s.params bd) (dctZone sz eob.toNat)) →
    ∀ rowK colK : Vec → Vec,
    rowK = kernel (classKernel (rowClass t) sz) (wrapBits s.params bd) →
    colK = kernel (classKernel (columnClass t) sz) (wrapBits s.params bd) →
    ∃ (m : Memory 16) (cs : Memory 32), exec (t.instr sz bdsel eob) s = .next { s with pix := m, coef := cs } ∧
      ∀ i < sz.side, ∀ j < sz.side,
        m.read (blockAddr base stride i j) = some (BitVec.ofInt 16 (clip
          (predInt s bd (blockAddr base stride i j) +
            RPT ((colK ((List.range sz.side).map (fun r =>
                (rowK ((List.range sz.side).map (fun c => coefInt s (wrapBits s.params bd) (r * sz.side + c)))).at
                  (if flipLR t then sz.side - 1 - j else j)))).at
              (if flipUD t then sz.side - 1 - i else i)) (finalShift sz))
          0 (maxPix bd)))

/-- R209, R210, R239: the samples of RECON.IDTX: `clip(P + (Xc >> shift), 0, maxPix)`, shift 3 below 32x32 and 2 at 32x32,
with the floor shift. -/
def Obligations.ReconIdtxWrites : Prop :=
  ∀ (s : State) (sz : TxSize) (bdsel : BitVec 2) (bd : BitDepth) (eob : BitVec 11) (base stride : Word),
    s.params.extTx = true → DepthOk s.params bdsel bd → eob.toNat ≤ sz.area → BlockReady s sz base stride →
    ∃ (m : Memory 16) (cs : Memory 32), exec (.reconIdtx sz bdsel eob) s = .next { s with pix := m, coef := cs } ∧
      ∀ i < sz.side, ∀ j < sz.side,
        m.read (blockAddr base stride i j) = some (BitVec.ofInt 16 (min (max
          (predInt s bd (blockAddr base stride i j) +
            coefInt s (wrapBits s.params bd) (i * sz.side + j) / (if sz = .s32 then 4 else 8)) 0) (2 ^ bd.bits - 1)))

/-- R226, R211: the samples of RECON.WHT when its eob premise holds: IWHT4 on the rows of the coefficients shifted right by
2, then on the columns, added to the prediction without rounding. -/
def Obligations.ReconWhtWrites : Prop :=
  ∀ (s : State) (bdsel : BitVec 2) (bd : BitDepth) (eob : BitVec 11) (base stride : Word),
    DepthOk s.params bdsel bd → eob.toNat ≤ 16 → BlockReady s .s4 base stride →
    ZeroOutside s .s4 (wrapBits s.params bd) (whtZone eob.toNat) →
    ∀ K : Vec → Vec, K = iwht4 (wrapBits s.params bd) →
    ∃ (m : Memory 16) (cs : Memory 32), exec (.reconWht bdsel eob) s = .next { s with pix := m, coef := cs } ∧
      ∀ i < 4, ∀ j < 4,
        m.read (blockAddr base stride i j) = some (BitVec.ofInt 16 (clip
          (predInt s bd (blockAddr base stride i j) +
            (K ((List.range 4).map (fun r =>
              (K ((List.range 4).map (fun c => coefInt s (wrapBits s.params bd) (4 * r + c) / 4))).at j))).at i)
          0 (maxPix bd)))

/-- R211: when the eob premise of RECON.DCT_DCT or RECON.WHT fails, the command still completes, and cell number k of the
block, in raster order, gets the k-th next free value cut to the bit depth. A statement about a drawn cell holds whatever
the free values are. -/
def Obligations.BrokenPremiseDraws : Prop :=
  ∀ (s : State) (sz : TxSize) (bdsel : BitVec 2) (bd : BitDepth) (eob : BitVec 11) (base stride : Word) (i : Instr),
    DepthOk s.params bdsel bd → eob.toNat ≤ sz.area → BlockReady s sz base stride →
    ((i = .reconDctDct sz bdsel eob ∧ ¬ ZeroOutside s sz (wrapBits s.params bd) (dctZone sz eob.toNat)) ∨
      (sz = .s4 ∧ i = .reconWht bdsel eob ∧ ¬ ZeroOutside s sz (wrapBits s.params bd) (whtZone eob.toNat))) →
    ∃ (m : Memory 16) (cs : Memory 32),
      exec i s = .next { s with pix := m, coef := cs, drawCount := s.drawCount + sz.area } ∧
      ∀ r < sz.side, ∀ c < sz.side, m.read (blockAddr base stride r c) =
        some (BitVec.ofNat 16 ((Config.freeSample (s.drawCount + (r * sz.side + c))).toNat % 2 ^ bd.bits))

/-- R203, R305: where a RECON traps, in the order of the checks, for all 17 commands: BAD_TXTYPE, BAD_BITDEPTH, EOB_RANGE,
UNWRITTEN for the destination registers, DST_RANGE, UNWRITTEN for COEF, UNWRITTEN for PIX. -/
def Obligations.ReconTraps : Prop :=
  ∀ (s : State) (sz : TxSize) (bdsel : BitVec 2) (eob : BitVec 11) (i : Instr), s.fault = none →
    (∀ t, i = t.instr sz bdsel eob → ¬ TypeOk s.params t →
      exec i s = .next { s with fault := some .badTxType, faultCmd := encode i }) ∧
    (((∃ t, TypeOk s.params t ∧ i = t.instr sz bdsel eob) ∨ (sz = .s4 ∧ i = .reconWht bdsel eob)) →
      ((bdsel = 3#2 ∨ (bdsel ≠ 0#2 ∧ s.params.hbd = false)) →
        exec i s = .next { s with fault := some .badBitDepth, faultCmd := encode i }) ∧
      (∀ bd, DepthOk s.params bdsel bd →
        (sz.area < eob.toNat → exec i s = .next { s with fault := some .eobRange, faultCmd := encode i }) ∧
        (eob.toNat ≤ sz.area →
          ((s.dstBase = none ∨ s.dstStride = none) →
            exec i s = .next { s with fault := some .unwritten, faultCmd := encode i }) ∧
          (∀ base stride, s.dstBase = some base → s.dstStride = some stride →
            ((stride.toNat < sz.side ∨ s.params.pixSize ≤ blockAddr base stride (sz.side - 1) (sz.side - 1)) →
              exec i s = .next { s with fault := some .dstRange, faultCmd := encode i }) ∧
            (sz.side ≤ stride.toNat → blockAddr base stride (sz.side - 1) (sz.side - 1) < s.params.pixSize →
              ((∃ k < sz.area, s.coef.read k = none) ∨
                ∃ r < sz.side, ∃ c < sz.side, s.pix.read (blockAddr base stride r c) = none) →
              exec i s = .next { s with fault := some .unwritten, faultCmd := encode i })))))

/-- R211: for every TxType but DCT_DCT the eob is only range-checked: two legal eobs give the same next state. -/
def Obligations.EobOnlyRangeChecked : Prop :=
  ∀ (s : State) (t : TxType) (sz : TxSize) (bdsel : BitVec 2) (bd : BitDepth) (eob eob' : BitVec 11)
    (base stride : Word),
    t ≠ .dctDct → TypeOk s.params t → DepthOk s.params bdsel bd → eob.toNat ≤ sz.area → eob'.toNat ≤ sz.area →
    BlockReady s sz base stride →
    ∃ u, exec (t.instr sz bdsel eob) s = .next u ∧ exec (t.instr sz bdsel eob') s = .next u

/-- R346: the block is consumed: a second RECON of any size right after one that completed, with the same legal bit depth
and a legal destination, faults with UNWRITTEN. -/
def Obligations.BlockIsConsumed : Prop :=
  ∀ (s u : State) (t t' : TxType) (sz sz' : TxSize) (bdsel : BitVec 2) (bd : BitDepth) (eob eob' : BitVec 11)
    (base stride : Word), s.fault = none →
    TypeOk s.params t → TypeOk s.params t' → DepthOk s.params bdsel bd → eob.toNat ≤ sz.area →
    eob'.toNat ≤ sz'.area → BlockReady s sz base stride →
    sz'.side ≤ stride.toNat → blockAddr base stride (sz'.side - 1) (sz'.side - 1) < s.params.pixSize →
    exec (t.instr sz bdsel eob) s = .next u →
    exec (t'.instr sz' bdsel eob') u =
      .next { u with fault := some .unwritten, faultCmd := encode (t'.instr sz' bdsel eob') }

/-- R217: the flip property of the residual. -/
def Obligations.FlipSymmetry : Prop :=
  ∀ (sz : TxSize) (n : Nat) (X : Vec) (i j : Nat), i < sz.side → j < sz.side →
    cell sz.side (reconResidual .flipadstDct sz n X) i j = cell sz.side (reconResidual .adstDct sz n X) (sz.side - 1 - i) j ∧
    cell sz.side (reconResidual .dctFlipadst sz n X) i j = cell sz.side (reconResidual .dctAdst sz n X) i (sz.side - 1 - j) ∧
    cell sz.side (reconResidual .flipadstFlipadst sz n X) i j =
      cell sz.side (reconResidual .adstAdst sz n X) (sz.side - 1 - i) (sz.side - 1 - j) ∧
    cell sz.side (reconResidual .adstFlipadst sz n X) i j = cell sz.side (reconResidual .adstAdst sz n X) i (sz.side - 1 - j) ∧
    cell sz.side (reconResidual .flipadstAdst sz n X) i j = cell sz.side (reconResidual .adstAdst sz n X) (sz.side - 1 - i) j ∧
    cell sz.side (reconResidual .vFlipadst sz n X) i j = cell sz.side (reconResidual .vAdst sz n X) (sz.side - 1 - i) j ∧
    cell sz.side (reconResidual .hFlipadst sz n X) i j = cell sz.side (reconResidual .hAdst sz n X) i (sz.side - 1 - j)

/-- R212: the DC-only constant. When every coefficient but the first is zero, every cell of the DCT_DCT residual is
`a1 = RPT(W(R(W(R(Xc[0][0] * C[16])) * C[16])), SHIFT(N))`; at bd = 8, 64 gives 2, 1, 1, 1 at N = 4, 8, 16, 32, 160 gives 5,
3, 1, 1, and 1000 gives 31, 16, 8, 8. -/
def Obligations.DcOnlyConstant : Prop :=
  (∀ (sz : TxSize) (n : Nat) (x : Int),
    reconResidual .dctDct sz n (x :: List.replicate (sz.area - 1) 0) =
      List.replicate sz.area (RPT (W n (R (W n (R (x * 11585)) * 11585))) (finalShift sz))) ∧
  (∀ row ∈ ([(64, [2, 1, 1, 1]), (160, [5, 3, 1, 1]), (1000, [31, 16, 8, 8])] : List (Int × List Int)),
    [TxSize.s4, .s8, .s16, .s32].map (fun sz => RPT (W 16 (R (W 16 (R (row.1 * 11585)) * 11585))) (finalShift sz)) = row.2)

/-- R213: the partial path is the full path. When every coefficient outside the corner of side S is zero, transforming only
rows 0 to S−1 and taking the other rows as zero gives the whole DCT_DCT transform. -/
def Obligations.PartialPathIsFull : Prop :=
  ∀ (sz : TxSize) (n S : Nat) (X : Vec),
    (∀ r < sz.side, ∀ c < sz.side, ¬(r < S ∧ c < S) → cell sz.side X r c = 0) →
    ∀ K : Vec → Vec, K = kernel (classKernel .dct sz) n →
    separable sz.side K K X =
      block sz.side (fun i c => (K ((List.range sz.side).map (fun r =>
        if r < S then (K ((List.range sz.side).map (fun c' => cell sz.side X r c'))).at c else 0))).at i)

/-- R226 and the lossless property: the lossless path reaches every residual of an 8-bit block: for each residual with
entries in [-255, 255] there are 16-bit coefficients whose RECON.WHT residual is exactly it. -/
def Obligations.LosslessReachesEveryResidual : Prop :=
  ∀ x : Vec, x.length = 16 → (∀ v ∈ x, -255 ≤ v ∧ v ≤ 255) →
    ∃ X : Vec, X.length = 16 ∧ (∀ v ∈ X, -32768 ≤ v ∧ v ≤ 32767) ∧ whtResidual 16 X = x

/-! ## Scan orders and contexts -/

/-- R263: INIT completes, builds the tables from SCAN_ROM the first time, and changes nothing the second time. After reset
it makes STATUS read 0x00000002. -/
def Obligations.InitBuildsTables : Prop :=
  (∀ s : State, s.tables = none →
    exec .init s = .next { s with tables := some (PerScan.ofFn (fun id =>
      buildTable (s.scanRom.get id) id.size.side id.kind)) }) ∧
  (∀ s : State, s.tables ≠ none → exec .init s = .next s) ∧
  (∀ s t : State, exec .init s = .next t → t.tablesReady = true ∧ (s = State.reset → statusWord t = 0x00000002#32))

/-- R264: what BUILD computes, for a table the spec allows: the inverse scan, no neighbour at position 0, and at position n the
scan positions of the cell above and of the cell left, or only the one along the scan's axis, or the one that exists at an
edge. (What an edge position holds is the spec's own inference: "The source does not say what an edge position holds".) -/
def Obligations.BuildFollowsTheRule : Prop :=
  ∀ (id : ScanId) (scan : List Nat) (N : Nat) (iscan : List Nat) (nbr : List (Option Nat × Option Nat)),
    ScanTable.Ok id scan → N = id.size.side → buildTable scan N id.kind = ⟨iscan, nbr⟩ →
    iscan.length = N * N ∧ nbr.length = N * N ∧
    (∀ n < N * N, iscan.getD (scan.getD n 0) 0 = n) ∧ (∀ rc < N * N, scan.getD (iscan.getD rc 0) 0 = rc) ∧
    nbr[0]? = some (none, none) ∧
    (∀ n, 0 < n → n < N * N → ∀ i j, i = scan.getD n 0 / N → j = scan.getD n 0 % N →
      (0 < i → 0 < j → id.kind = .col → nbr[n]? = some (iscan[(i - 1) * N + j]?, none)) ∧
      (0 < i → 0 < j → id.kind = .row → nbr[n]? = some (iscan[i * N + j - 1]?, none)) ∧
      (0 < i → 0 < j → id.kind = .default → nbr[n]? = some (iscan[(i - 1) * N + j]?, iscan[i * N + j - 1]?)) ∧
      (0 < i → j = 0 → nbr[n]? = some (iscan[(i - 1) * N + j]?, none)) ∧
      (i = 0 → nbr[n]? = some (iscan[i * N + j - 1]?, none)))

/-- R262 (3), R271: at every position past 0 neighbour 0 is present, and every neighbour stands earlier in the scan. -/
def Obligations.NeighboursAreEarlier : Prop :=
  ∀ (id : ScanId) (scan : List Nat), ScanTable.Ok id scan →
    ∀ n, 0 < n → n < id.size.area →
      ∃ a b, (buildTable scan id.size.side id.kind).nbr[n]? = some (some a, b) ∧ a < n ∧ ∀ m, b = some m → m < n

/-- R265: the tables BUILD gives for the 4x4 scans of R261. (Their edge positions rest on the spec's own inference in R264:
"The source does not say what an edge position holds".) -/
def Obligations.FourByFourTables : Prop :=
  buildTable [0, 4, 1, 5, 8, 2, 12, 9, 3, 6, 13, 10, 7, 14, 11, 15] 4 .default =
    ⟨[0, 2, 5, 8, 1, 3, 9, 12, 4, 7, 11, 14, 6, 10, 13, 15],
      [(none, none), (some 0, none), (some 0, none), (some 2, some 1), (some 1, none), (some 2, none), (some 4, none),
        (some 3, some 4), (some 5, none), (some 5, some 3), (some 7, some 6), (some 9, some 7), (some 8, some 9),
        (some 11, some 10), (some 12, some 11), (some 14, some 13)]⟩ ∧
  buildTable [0, 1, 4, 2, 5, 3, 6, 8, 9, 7, 12, 10, 13, 11, 14, 15] 4 .row =
    ⟨[0, 1, 3, 5, 2, 4, 6, 9, 7, 8, 11, 13, 10, 12, 14, 15],
      [(none, none), (some 0, none), (some 0, none), (some 1, none), (some 2, none), (some 3, none), (some 4, none),
        (some 2, none), (some 7, none), (some 6, none), (some 7, none), (some 8, none), (some 10, none), (some 11, none),
        (some 12, none), (some 14, none)]⟩ ∧
  buildTable [0, 4, 8, 1, 12, 5, 9, 2, 13, 6, 10, 3, 7, 14, 11, 15] 4 .col =
    ⟨[0, 3, 7, 11, 1, 5, 9, 12, 2, 6, 10, 14, 4, 8, 13, 15],
      [(none, none), (some 0, none), (some 1, none), (some 0, none), (some 2, none), (some 3, none), (some 5, none),
        (some 3, none), (some 6, none), (some 7, none), (some 9, none), (some 7, none), (some 11, none), (some 10, none),
        (some 12, none), (some 14, none)]⟩

/-- R267: the scan kind GETSCAN selects: DEFAULT for an inter block, a lossless block, a 32x32 block or a chroma block,
whatever the mode, and otherwise the kind INTRA_SCAN_MAP gives the mode; the chroma case is the spec's decision. GETSCAN completes with it in SCAN_SEL and changes
nothing else. -/
def Obligations.GetscanSelects : Prop :=
  ∀ (s : State) (sz : TxSize) (chroma isInter lossless : Bool) (mode : BitVec 4),
    s.tables ≠ none → (lossless = true → sz = .s4) → (isInter = true ∨ mode.toNat < 10) →
    ((isInter = true ∨ lossless = true ∨ sz = .s32 ∨ chroma = true) →
      exec (.getscan sz chroma isInter lossless mode) s = .next { s with scanSel := some (0#2 ++ sz.toField) }) ∧
    (isInter = false → lossless = false → sz ≠ .s32 → chroma = false →
      ∃ m, IntraMode.ofField mode = some m ∧ exec (.getscan sz chroma isInter lossless mode) s =
        .next { s with scanSel := some ((s.params.intraMap.kind m).toField ++ sz.toField) })

/-- R268, R260, R305: where GETSCAN traps, in order: LOSSLESS_ILLEGAL, BAD_INTRA_MODE, TABLES_NOT_READY. -/
def Obligations.GetscanTraps : Prop :=
  ∀ (s : State) (sz : TxSize) (chroma isInter lossless : Bool) (mode : BitVec 4) (w : Word), s.fault = none →
    w = encode (.getscan sz chroma isInter lossless mode) →
    (lossless = true → sz ≠ .s4 → exec (.getscan sz chroma isInter lossless mode) s =
      .next { s with fault := some .losslessIllegal, faultCmd := w }) ∧
    ((lossless = true → sz = .s4) → isInter = false → 10 ≤ mode.toNat →
      exec (.getscan sz chroma isInter lossless mode) s = .next { s with fault := some .badIntraMode, faultCmd := w }) ∧
    ((lossless = true → sz = .s4) → (isInter = true ∨ mode.toNat < 10) → s.tables = none →
      exec (.getscan sz chroma isInter lossless mode) s = .next { s with fault := some .tablesNotReady, faultCmd := w })

/-- R270, R305, R260: where SCANLOOKUP and CTX trap before they read a table or a token: BAD_SCAN_KIND, POS_RANGE,
TABLES_NOT_READY, in that order. -/
def Obligations.ScanposTraps : Prop :=
  ∀ (s : State) (sz : TxSize) (kind : BitVec 2) (pos : BitVec 11) (i : Instr), s.fault = none →
    (i = .scanlookup sz kind pos ∨ i = .ctx sz kind pos) →
    ((kind = 3#2 ∨ (kind ≠ 0#2 ∧ sz = .s32)) →
      exec i s = .next { s with fault := some .badScanKind, faultCmd := encode i }) ∧
    (kind ≠ 3#2 → (kind = 0#2 ∨ sz ≠ .s32) → sz.area ≤ pos.toNat →
      exec i s = .next { s with fault := some .posRange, faultCmd := encode i }) ∧
    (kind ≠ 3#2 → (kind = 0#2 ∨ sz ≠ .s32) → pos.toNat < sz.area → s.tables = none →
      exec i s = .next { s with fault := some .tablesNotReady, faultCmd := encode i })

/-- R270: SCANLOOKUP completes with scan[p], iscan[p] and the two neighbours of position p in RES0 to RES3, −1 where a
neighbour is absent, and changes nothing else. -/
def Obligations.ScanlookupReads : Prop :=
  ∀ (s : State) T (id : ScanId) (kind : BitVec 2) (pos : BitVec 11),
    TablesOk s → s.tables = some T → ScanKind.ofField kind = some id.kind → pos.toNat < id.size.area →
    ∃ rc q a b, (s.scanRom.get id)[pos.toNat]? = some rc ∧ (T.get id).iscan[pos.toNat]? = some q ∧
      (T.get id).nbr[pos.toNat]? = some (a, b) ∧
      exec (.scanlookup id.size kind pos) s = .next { s with
        res0 := some (BitVec.ofNat 32 rc), res1 := some (BitVec.ofNat 32 q),
        res2 := some (match a with | some m => BitVec.ofNat 32 m | none => 0xFFFFFFFF#32),
        res3 := some (match b with | some m => BitVec.ofNat 32 m | none => 0xFFFFFFFF#32) }

/-- R271: what CTX computes: 0 at position 0; past it, with the tokens of the neighbours written and at most 5,
`(1 + TOK[a] + TOK[b]) >> 1`, or TOK[a] where neighbour 1 is absent. It completes and changes nothing but CTX_OUT. -/
def Obligations.ContextComputes : Prop :=
  ∀ (s : State) T (id : ScanId) (kind : BitVec 2) (pos : BitVec 11),
    s.tables = some T → ScanKind.ofField kind = some id.kind → pos.toNat < id.size.area →
    (pos = 0#11 → exec (.ctx id.size kind pos) s = .next { s with ctxOut := some 0#3 }) ∧
    (∀ a x, pos ≠ 0#11 → (T.get id).nbr[pos.toNat]? = some (some a, none) → s.tok.read a = some x → x.toNat ≤ 5 →
      exec (.ctx id.size kind pos) s = .next { s with ctxOut := some x }) ∧
    (∀ a b x y, pos ≠ 0#11 → (T.get id).nbr[pos.toNat]? = some (some a, some b) → s.tok.read a = some x →
      s.tok.read b = some y → x.toNat ≤ 5 → y.toNat ≤ 5 →
      exec (.ctx id.size kind pos) s =
        .next { s with ctxOut := some (BitVec.ofNat 3 ((1 + x.toNat + y.toNat) / 2)) })

/-- R271, R305: where CTX traps on its tokens, past position 0: UNWRITTEN if any token it reads is unwritten, and then
TOKEN_RANGE if any is 6 or 7. -/
def Obligations.ContextTraps : Prop :=
  ∀ (s : State) T (id : ScanId) (kind : BitVec 2) (pos : BitVec 11) (a : Nat) (b : Option Nat) (w : Word),
    s.fault = none → s.tables = some T → ScanKind.ofField kind = some id.kind → pos.toNat < id.size.area →
    pos ≠ 0#11 → (T.get id).nbr[pos.toNat]? = some (some a, b) → w = encode (.ctx id.size kind pos) →
    ((∃ m, (m = a ∨ b = some m) ∧ s.tok.read m = none) →
      exec (.ctx id.size kind pos) s = .next { s with fault := some .unwritten, faultCmd := w }) ∧
    ((∀ m, (m = a ∨ b = some m) → s.tok.read m ≠ none) →
      (∃ m x, (m = a ∨ b = some m) ∧ s.tok.read m = some x ∧ 6 ≤ x.toNat) →
      exec (.ctx id.size kind pos) s = .next { s with fault := some .tokenRange, faultCmd := w })

/-- R272: causality of the context: CTX for position n reads only TOK cells of positions before n, so two states that agree on
those give the same outcome; and a host that has written a class 0 to 5 to every position before n gets a context. -/
def Obligations.ContextIsCausal : Prop :=
  ∀ (s : State) T (id : ScanId) (kind : BitVec 2) (pos : BitVec 11),
    TablesOk s → s.tables = some T → ScanKind.ofField kind = some id.kind → pos.toNat < id.size.area →
    (∀ (tok' : Memory 3) (t : State), (∀ m < pos.toNat, s.tok.read m = tok'.read m) →
      exec (.ctx id.size kind pos) s = .next t →
      exec (.ctx id.size kind pos) { s with tok := tok' } = .next { t with tok := tok' }) ∧
    ((∀ m < pos.toNat, ∃ x, s.tok.read m = some x ∧ x.toNat ≤ 5) →
      ∃ v, v.toNat ≤ 5 ∧ exec (.ctx id.size kind pos) s = .next { s with ctxOut := some v })

/-! ## The parameters -/

/-- R9: the parameters and SCAN_ROM are fixed for one engine instance, whatever the step; PIX_SIZE is at most 2^32, so with
the invariant every written cell of PIX has a 32-bit address. -/
def Obligations.ParametersFixed : Prop :=
  (∀ s t : State, step s = .next t → t.params = s.params ∧ t.scanRom = s.scanRom) ∧
  (∀ s : State, s.params.pixSize ≤ 2 ^ 32) ∧
  (∀ (s : State) (a : Nat), Inv s → s.pix.read a ≠ none → a < 2 ^ 32)
end

