-- ==== Sys2Proof/Laws/Memory.lean ====
section
/-!
SUPPORT. The laws of memories: what a read sees after a write or an erasure, and that every operation keeps the
canonical form and the bound of the addresses.
-/

namespace Sys2Proof.Machine

variable {w : Nat}

@[simp] theorem Memory.read_nil (a : Nat) : Memory.read ([] : Memory w) a = none := rfl

theorem Memory.read_cons (b : Nat) (v : BitVec w) (m : Memory w) (a : Nat) :
    Memory.read ((b, v) :: m) a = if a = b then some v else Memory.read m a := rfl

/-- A read of the written cell gives the value written. -/
@[simp] theorem Memory.read_write_same (m : Memory w) (a : Nat) (v : BitVec w) : (m.write a v).read a = some v := by
  induction m with
  | nil => simp [Memory.write, Memory.read]
  | cons c rest ih =>
    obtain ⟨b, u⟩ := c
    unfold Memory.write
    split
    · simp [Memory.read]
    · split
      · simp [Memory.read]
      · rename_i h
        simp [Memory.read, h, ih]

/-- A write leaves every other cell as it was. -/
theorem Memory.read_write_other (m : Memory w) {a c : Nat} (v : BitVec w) (h : c ≠ a) :
    (m.write a v).read c = m.read c := by
  induction m with
  | nil => simp [Memory.write, Memory.read, h]
  | cons d rest ih =>
    obtain ⟨b, u⟩ := d
    unfold Memory.write
    split
    · simp [Memory.read_cons, h]
    · split
      · rename_i hab
        subst hab
        simp [Memory.read_cons, h]
      · simp [Memory.read_cons, ih]

/-- A read after a write. -/
theorem Memory.read_write (m : Memory w) (a c : Nat) (v : BitVec w) :
    (m.write a v).read c = if c = a then some v else m.read c := by
  by_cases h : c = a
  · subst h; simp
  · rw [Memory.read_write_other m v h, if_neg h]

/-- Writing a list of cells leaves every cell that is not in it. -/
theorem Memory.read_writeAll_other (l : List (Nat × BitVec w)) (m : Memory w) {c : Nat} (h : c ∉ l.map Prod.fst) :
    (m.writeAll l).read c = m.read c := by
  induction l generalizing m with
  | nil => rfl
  | cons d rest ih =>
    obtain ⟨a, v⟩ := d
    simp only [List.map_cons, List.mem_cons, not_or] at h
    rw [Memory.writeAll, ih _ h.2, Memory.read_write_other m v h.1]

/-- Writing cells at distinct addresses gives each the value written. -/
theorem Memory.read_writeAll_mem (l : List (Nat × BitVec w)) (m : Memory w) (hd : (l.map Prod.fst).Nodup)
    {c : Nat × BitVec w} (h : c ∈ l) : (m.writeAll l).read c.1 = some c.2 := by
  induction l generalizing m with
  | nil => cases h
  | cons d rest ih =>
    obtain ⟨a, v⟩ := d
    simp only [List.map_cons, List.nodup_cons] at hd
    rcases List.mem_cons.1 h with rfl | h
    · rw [Memory.writeAll, Memory.read_writeAll_other rest _ hd.1, Memory.read_write_same]
    · exact ih _ hd.2 h

/-- An erased cell is unwritten; a cell at or above the bound is as it was. -/
theorem Memory.read_eraseBelow (m : Memory w) (n a : Nat) :
    (m.eraseBelow n).read a = if a < n then none else m.read a := by
  induction m with
  | nil => simp [Memory.eraseBelow]
  | cons c rest ih =>
    obtain ⟨b, v⟩ := c
    simp only [Memory.eraseBelow] at ih ⊢
    rw [List.filter_cons]
    by_cases hb : n ≤ b
    · simp only [hb, decide_true, if_true, Memory.read_cons, ih]
      split
      · rw [if_neg (by omega)]
      · rfl
    · simp only [hb, decide_false, Bool.false_eq_true, if_false, ih, Memory.read_cons]
      by_cases ha : a < n
      · simp [ha]
      · rw [if_neg ha, if_neg ha, if_neg (by omega)]

/-- `readAll` reads exactly the listed cells. -/
theorem Memory.readAll_eq_some {m : Memory w} {as : List Nat} {vs : List (BitVec w)} :
    m.readAll as = some vs ↔ as.map m.read = vs.map some := by
  induction as generalizing vs with
  | nil => cases vs <;> simp [Memory.readAll]
  | cons a rest ih =>
    unfold Memory.readAll
    cases ha : m.read a with
    | none => cases vs <;> simp [ha]
    | some v =>
      cases hr : m.readAll rest with
      | none =>
        simp only [reduceCtorEq, false_iff, List.map_cons, ha]
        cases vs with
        | nil => simp
        | cons u us =>
          simp only [List.map_cons, List.cons.injEq, not_and]
          intro _ h
          rw [ih.2 h] at hr
          cases hr
      | some ws =>
        have hw := ih.1 hr
        simp only [Option.some.injEq, List.map_cons, ha, hw]
        cases vs with
        | nil => simp
        | cons u us =>
          simp only [List.map_cons, List.cons.injEq, Option.some.injEq, and_congr_right_iff]
          intro _
          exact (List.map_injective_iff.2 (Option.some_injective _)).eq_iff.symm

/-- `readAll` has a value exactly when every listed cell is written. -/
theorem Memory.readAll_isSome {m : Memory w} {as : List Nat} :
    (m.readAll as).isSome ↔ ∀ a ∈ as, m.read a ≠ none := by
  induction as with
  | nil => simp [Memory.readAll]
  | cons a rest ih =>
    unfold Memory.readAll
    cases ha : m.read a <;> cases hr : m.readAll rest <;> simp_all

/-- `readAll` gives one value for each address. -/
theorem Memory.readAll_length {m : Memory w} {as : List Nat} {vs : List (BitVec w)} (h : m.readAll as = some vs) :
    vs.length = as.length := by
  have := congrArg List.length (Memory.readAll_eq_some.1 h)
  simpa using this.symm

/-- Every cell of a written memory is the written one or one that was there. -/
theorem Memory.mem_write {m : Memory w} {a : Nat} {v : BitVec w} {c : Nat × BitVec w} (h : c ∈ m.write a v) :
    c = (a, v) ∨ c ∈ m := by
  induction m with
  | nil => simpa [Memory.write] using h
  | cons d rest ih =>
    obtain ⟨b, u⟩ := d
    unfold Memory.write at h
    split at h
    · rcases List.mem_cons.1 h with h | h
      · exact .inl h
      · exact .inr h
    · split at h
      · rcases List.mem_cons.1 h with h | h
        · exact .inl h
        · exact .inr (List.mem_cons_of_mem _ h)
      · rcases List.mem_cons.1 h with h | h
        · exact .inr (h ▸ List.mem_cons_self)
        · exact (ih h).imp_right (List.mem_cons_of_mem _)

/-- A write keeps the canonical form. -/
theorem Memory.wf_write {m : Memory w} (h : m.wf) (a : Nat) (v : BitVec w) : (m.write a v).wf := by
  induction m with
  | nil => simp [Memory.write, Memory.wf]
  | cons d rest ih =>
    obtain ⟨b, u⟩ := d
    have hr := List.pairwise_cons.1 h
    unfold Memory.write
    split
    · rename_i hab
      refine List.pairwise_cons.2 ⟨fun c hc => ?_, h⟩
      rcases List.mem_cons.1 hc with rfl | hc
      · exact hab
      · exact Nat.lt_trans hab (hr.1 c hc)
    · split
      · rename_i hab
        subst hab
        exact List.pairwise_cons.2 ⟨hr.1, hr.2⟩
      · rename_i h1 h2
        refine List.pairwise_cons.2 ⟨fun c hc => ?_, ih hr.2⟩
        rcases Memory.mem_write hc with rfl | hc
        · show b < a
          omega
        · exact hr.1 c hc

/-- Writing a list of cells keeps the canonical form. -/
theorem Memory.wf_writeAll (l : List (Nat × BitVec w)) {m : Memory w} (h : m.wf) : (m.writeAll l).wf := by
  induction l generalizing m with
  | nil => exact h
  | cons d rest ih => exact ih (Memory.wf_write h _ _)

/-- Erasing cells keeps the canonical form. -/
theorem Memory.wf_eraseBelow {m : Memory w} (h : m.wf) (n : Nat) : (m.eraseBelow n).wf := List.Pairwise.filter _ h

/-- In canonical form, a listed cell reads as its value. -/
theorem Memory.read_of_mem {m : Memory w} (h : m.wf) {c : Nat × BitVec w} (hc : c ∈ m) : m.read c.1 = some c.2 := by
  induction m with
  | nil => cases hc
  | cons d rest ih =>
    have hr := List.pairwise_cons.1 h
    obtain ⟨b, u⟩ := d
    rcases List.mem_cons.1 hc with rfl | hc
    · simp [Memory.read_cons]
    · rw [Memory.read_cons, if_neg (Nat.ne_of_gt (hr.1 c hc)), ih hr.2 hc]

/-- A cell that reads as a value is listed. -/
theorem Memory.mem_of_read {m : Memory w} {a : Nat} {v : BitVec w} (h : m.read a = some v) : (a, v) ∈ m := by
  induction m with
  | nil => cases h
  | cons d rest ih =>
    obtain ⟨b, u⟩ := d
    rw [Memory.read_cons] at h
    split at h
    · rename_i hab
      cases h
      exact hab ▸ List.mem_cons_self
    · exact List.mem_cons_of_mem _ (ih h)

/-- In canonical form a memory is determined by what its cells read as. -/
theorem Memory.ext_read {m m' : Memory w} (h : m.wf) (h' : m'.wf) (hr : ∀ a, m.read a = m'.read a) : m = m' := by
  have key : ∀ c, c ∈ m ↔ c ∈ m' := fun c =>
    ⟨fun hc => Memory.mem_of_read ((hr c.1).symm.trans (Memory.read_of_mem h hc)),
      fun hc => Memory.mem_of_read ((hr c.1).trans (Memory.read_of_mem h' hc))⟩
  have nd : ∀ {l : Memory w}, l.wf → l.Nodup := fun hl =>
    List.Pairwise.imp (fun {x y} (hxy : x.1 < y.1) (he : x = y) => Nat.lt_irrefl y.1 (he ▸ hxy)) hl
  have hp : m.Perm m' := (List.perm_ext_iff_of_nodup (nd h) (nd h')).2 key
  refine hp.eq_of_pairwise (fun a b _ _ h1 h2 => ?_) h h'
  exact absurd h1 (Nat.lt_asymm h2)

end Sys2Proof.Machine
end

