-- ==== Sys2Proof/Laws/Checks.lean ====
section
/-!
SUPPORT. The laws of the checks: when each passes, what each raises, and that the field checks are exactly
`Instr.WellFormed`; and that every command of a family is its family's shared operation.
-/

namespace Sys2Proof.Machine

/-- `conclude` with an effect is that effect. -/
@[simp] theorem conclude_ok (i : Instr) (s t : State) : conclude i s (.ok t) = .next t := rfl

/-- `conclude` with a cause is ContractViolation. -/
@[simp] theorem conclude_error (i : Instr) (s : State) (c : Cause) :
    conclude i s (.error c) = .next (raise c (encode i) s) := rfl

/-- A command always answers a next state: its effect or ContractViolation. -/
theorem conclude_cases (i : Instr) (s : State) (r : Except Cause State) :
    (∃ t, r = .ok t ∧ conclude i s r = .next t) ∨
      (∃ c, r = .error c ∧ conclude i s r = .next (raise c (encode i) s)) := by
  cases r with
  | ok t => exact .inl ⟨t, rfl, rfl⟩
  | error c => exact .inr ⟨c, rfl, rfl⟩

/-- The four values of a two-bit field. -/
theorem bit2_cases (b : BitVec 2) : b = 0#2 ∨ b = 1#2 ∨ b = 2#2 ∨ b = 3#2 := by revert b; decide

@[simp] theorem orUnwritten_some {α : Type} (a : α) : orUnwritten (some a) = .ok a := rfl

@[simp] theorem orUnwritten_none {α : Type} : orUnwritten (none : Option α) = .error .unwritten := rfl

/-- The BDSEL check passes for the well-formed values only. -/
theorem checkBitDepth_ok {p : Params} {b : BitVec 2} {bd : BitDepth} :
    checkBitDepth p b = .ok bd ↔ bdselOk p b = true ∧ BitDepth.ofField b = some bd := by
  obtain ⟨ext, hbd, wr, ps, im⟩ := p
  rcases bit2_cases b with rfl | rfl | rfl | rfl <;> cases hbd <;> cases bd <;>
    simp [checkBitDepth, bdselOk, BitDepth.ofField]

/-- The BDSEL check has one cause. -/
theorem checkBitDepth_error {p : Params} {b : BitVec 2} {c : Cause} :
    checkBitDepth p b = .error c ↔ bdselOk p b = false ∧ c = .badBitDepth := by
  obtain ⟨ext, hbd, wr, ps, im⟩ := p
  rcases bit2_cases b with rfl | rfl | rfl | rfl <;> cases hbd <;>
    simp [checkBitDepth, bdselOk, BitDepth.ofField, eq_comm]

/-- The EOB check passes for the well-formed values only. -/
theorem checkEob_ok {sz : TxSize} {eob : BitVec 11} : checkEob sz eob = .ok () ↔ eobOk sz eob = true := by
  unfold checkEob eobOk
  split <;> simp <;> omega

/-- The EOB check has one cause. -/
theorem checkEob_error {sz : TxSize} {eob : BitVec 11} {c : Cause} :
    checkEob sz eob = .error c ↔ eobOk sz eob = false ∧ c = .eobRange := by
  unfold checkEob eobOk
  split <;> simp [eq_comm] <;> omega

/-- The TXTYPE check passes for the types that exist only. -/
theorem checkTxType_ok {p : Params} {t : TxType} : checkTxType p t = .ok () ↔ (p.extTx || !t.extended) = true := by
  unfold checkTxType
  cases p.extTx <;> cases t.extended <;> simp

/-- The TXTYPE check has one cause. -/
theorem checkTxType_error {p : Params} {t : TxType} {c : Cause} :
    checkTxType p t = .error c ↔ (p.extTx || !t.extended) = false ∧ c = .badTxType := by
  unfold checkTxType
  cases p.extTx <;> cases t.extended <;> simp [eq_comm]

/-- The KIND check passes for the scans that exist only. -/
theorem checkScan_isOk {sz : TxSize} {kind : BitVec 2} : (∃ id, checkScan sz kind = .ok id) ↔ kindOk sz kind = true := by
  rcases bit2_cases kind with rfl | rfl | rfl | rfl <;> cases sz <;> simp [checkScan, kindOk, ScanKind.ofField, ScanId.of]

/-- The KIND check has one cause. -/
theorem checkScan_error {sz : TxSize} {kind : BitVec 2} {c : Cause} :
    checkScan sz kind = .error c ↔ kindOk sz kind = false ∧ c = .badScanKind := by
  rcases bit2_cases kind with rfl | rfl | rfl | rfl <;> cases sz <;>
    simp [checkScan, kindOk, ScanKind.ofField, ScanId.of] <;> exact eq_comm

/-- The scan a passed KIND check names has the size of the command. -/
theorem checkScan_size {sz : TxSize} {kind : BitVec 2} {id : ScanId} (h : checkScan sz kind = .ok id) :
    id.size = sz := by
  rcases bit2_cases kind with rfl | rfl | rfl | rfl <;> cases sz <;>
    simp_all [checkScan, ScanKind.ofField, ScanId.of] <;> subst h <;> rfl

/-- The POS check passes for the well-formed values only, and gives the position. -/
theorem checkPos_ok {sz : TxSize} {pos : BitVec 11} {n : Nat} :
    checkPos sz pos = .ok n ↔ posOk sz pos = true ∧ n = pos.toNat := by
  unfold checkPos posOk
  split <;> simp_all [eq_comm]

/-- The POS check has one cause. -/
theorem checkPos_error {sz : TxSize} {pos : BitVec 11} {c : Cause} :
    checkPos sz pos = .error c ↔ posOk sz pos = false ∧ c = .posRange := by
  unfold checkPos posOk
  split <;> simp_all [eq_comm]

/-- The table-ready check. -/
theorem checkTables_ok {s : State} {t : ScanTables} : checkTables s = .ok t ↔ s.tables = some t := by
  unfold checkTables
  cases s.tables <;> simp

/-- The table-ready check has one cause. -/
theorem checkTables_error {s : State} {c : Cause} :
    checkTables s = .error c ↔ s.tables = none ∧ c = .tablesNotReady := by
  unfold checkTables
  cases s.tables <;> simp [eq_comm]

/-- Checks (4) and (5) pass exactly when the destination is set, its stride is enough and its last cell exists. -/
theorem checkDest_ok {s : State} {sz : TxSize} {b : DestBlock} :
    checkDest s sz = .ok b ↔
      ∃ base stride, s.dstBase = some base ∧ s.dstStride = some stride ∧ b = ⟨base.toNat, stride.toNat⟩ ∧
        sz.side ≤ b.stride ∧ destAddr b (sz.side - 1) (sz.side - 1) < s.params.pixSize := by
  unfold checkDest
  cases hb : s.dstBase with
  | none => simp
  | some base =>
    cases hs : s.dstStride with
    | none => simp
    | some stride =>
      simp only [Option.some.injEq]
      split
      · rename_i h
        simp only [reduceCtorEq, false_iff, not_exists, not_and]
        rintro _ _ rfl rfl rfl h1
        simp only at h h1
        omega
      · rename_i h
        simp only [not_or, Nat.not_lt, Nat.not_le] at h
        simp only [Except.ok.injEq]
        constructor
        · rintro rfl
          exact ⟨_, _, rfl, rfl, rfl, h.1, h.2⟩
        · rintro ⟨_, _, rfl, rfl, rfl, _⟩
          rfl

/-- The operands of a RECON are read exactly when checks (4) to (7) pass. -/
theorem reconInput_ok {sz : TxSize} {s : State} {x : ReconInput} :
    reconInput sz s = .ok x ↔
      checkDest s sz = .ok x.block ∧ s.coef.readAll (List.range sz.area) = some x.coefs ∧
        s.pix.readAll (destAddrs x.block sz.side) = some x.preds := by
  obtain ⟨b, cs, ps⟩ := x
  unfold reconInput coefInput predInput
  cases checkDest s sz with
  | error c => simp [bind, Except.bind]
  | ok b' =>
    cases s.coef.readAll (List.range sz.area) with
    | none => simp [bind, Except.bind]
    | some cs' =>
      simp only [bind, Except.bind, orUnwritten_some]
      by_cases hb : b' = b
      · subst hb
        cases s.pix.readAll (destAddrs b' sz.side) <;> simp [pure, Except.pure]
      · constructor
        · intro h
          cases hp : s.pix.readAll (destAddrs b' sz.side) with
          | none => simp [hp] at h
          | some ps' => simp [hp, pure, Except.pure] at h; exact absurd h.1 hb
        · rintro ⟨h, _⟩
          exact absurd (Except.ok.inj h) hb

/-- What a KERN1D can do: it stores the kernel's output exactly when its field and its lanes pass. -/
theorem runKernel_ok {size : Nat} {K : Nat → Vec → Vec} {bdsel : BitVec 2} {s t : State} :
    runKernel size K bdsel s = .ok t ↔
      ∃ bd lanes, checkBitDepth s.params bdsel = .ok bd ∧ s.vin.readAll (List.range size) = some lanes ∧
        t = { s with vout := s.vout.writeAll (laneWrites size
          (K (wrapBits s.params bd) (wrapWords (wrapBits s.params bd) lanes))) } := by
  unfold runKernel kernelInput
  cases checkBitDepth s.params bdsel with
  | error c => simp [bind, Except.bind]
  | ok bd =>
    cases s.vin.readAll (List.range size) with
    | none => simp [bind, Except.bind]
    | some lanes => simp [bind, Except.bind, pure, Except.pure, eq_comm]

/-- What a RECON.<TxType> can do: the write-back, exactly when its fields and its operands pass. -/
theorem runRecon_ok {t : TxType} {sz : TxSize} {bdsel : BitVec 2} {eob : BitVec 11} {s u : State} :
    runRecon t sz bdsel eob s = .ok u ↔
      ∃ bd x, checkTxType s.params t = .ok () ∧ checkBitDepth s.params bdsel = .ok bd ∧
        checkEob sz eob = .ok () ∧ reconInput sz s = .ok x ∧
        u = writeBack sz bd x (eobPremise t sz eob.toNat (wrapWords (wrapBits s.params bd) x.coefs))
          (reconResidual t sz (wrapBits s.params bd) (wrapWords (wrapBits s.params bd) x.coefs)) s := by
  unfold runRecon
  cases checkTxType s.params t with
  | error c => simp [bind, Except.bind]
  | ok _ =>
    cases checkBitDepth s.params bdsel with
    | error c => simp [bind, Except.bind]
    | ok bd =>
      cases checkEob sz eob with
      | error c => simp [bind, Except.bind]
      | ok _ =>
        cases reconInput sz s with
        | error c => simp [bind, Except.bind]
        | ok x => simp [bind, Except.bind, pure, Except.pure, eq_comm]

/-- What RECON.WHT can do: the write-back, exactly when its fields and its operands pass. -/
theorem runWht_ok {bdsel : BitVec 2} {eob : BitVec 11} {s u : State} :
    runWht bdsel eob s = .ok u ↔
      ∃ bd x, checkBitDepth s.params bdsel = .ok bd ∧ checkEob .s4 eob = .ok () ∧ reconInput .s4 s = .ok x ∧
        u = writeBack .s4 bd x (zonePremise 4 (whtZone eob.toNat) (wrapWords (wrapBits s.params bd) x.coefs))
          (whtResidual (wrapBits s.params bd) (wrapWords (wrapBits s.params bd) x.coefs)) s := by
  unfold runWht
  cases checkBitDepth s.params bdsel with
  | error c => simp [bind, Except.bind]
  | ok bd =>
    cases checkEob .s4 eob with
    | error c => simp [bind, Except.bind]
    | ok _ =>
      cases reconInput .s4 s with
      | error c => simp [bind, Except.bind]
      | ok x => simp [bind, Except.bind, pure, Except.pure, eq_comm]

/-- What GETSCAN can do: it writes SCAN_SEL, exactly when its fields pass and the tables are built. -/
theorem runGetscan_ok {sz : TxSize} {chroma isInter lossless : Bool} {mode : BitVec 4} {s t : State} :
    runGetscan sz chroma isInter lossless mode s = .ok t ↔
      ∃ m tables, checkLosslessScan lossless sz = .ok () ∧ checkMode isInter mode = .ok m ∧
        s.tables = some tables ∧
        t = { s with scanSel := some (scanSelWord (selectKind s.params.intraMap sz chroma lossless m) sz) } := by
  unfold runGetscan checkTables
  cases checkLosslessScan lossless sz with
  | error c => simp [bind, Except.bind]
  | ok _ =>
    cases checkMode isInter mode with
    | error c => simp [bind, Except.bind]
    | ok m => cases s.tables <;> simp [bind, Except.bind, pure, Except.pure, eq_comm]

/-- What SCANLOOKUP can do: it writes RES0 to RES3, exactly when its fields pass and the tables are built. -/
theorem runScanlookup_ok {sz : TxSize} {kind : BitVec 2} {pos : BitVec 11} {s t : State} :
    runScanlookup sz kind pos s = .ok t ↔
      ∃ id p tables, checkScan sz kind = .ok id ∧ checkPos sz pos = .ok p ∧ s.tables = some tables ∧
        t = { s with
          res0 := some (BitVec.ofNat 32 ((s.scanRom.get id).getD p 0))
          res1 := some (BitVec.ofNat 32 ((tables.get id).iscan.getD p 0))
          res2 := some (neighbourWord ((tables.get id).nbr.getD p (none, none)).1)
          res3 := some (neighbourWord ((tables.get id).nbr.getD p (none, none)).2) } := by
  unfold runScanlookup checkTables
  cases checkScan sz kind with
  | error c => simp [bind, Except.bind]
  | ok id =>
    cases checkPos sz pos with
    | error c => simp [bind, Except.bind]
    | ok p => cases s.tables <;> simp [bind, Except.bind, pure, Except.pure, eq_comm]

/-- What CTX can do: it writes CTX_OUT, exactly when its fields pass, the tables are built, and (past position 0) the
tokens of the position's neighbours give a context. -/
theorem runCtx_ok {sz : TxSize} {kind : BitVec 2} {pos : BitVec 11} {s t : State} :
    runCtx sz kind pos s = .ok t ↔
      ∃ id n tables, checkScan sz kind = .ok id ∧ checkPos sz pos = .ok n ∧ s.tables = some tables ∧
        ((n = 0 ∧ t = { s with ctxOut := some 0#3 }) ∨
          (n ≠ 0 ∧ ∃ c, contextOf s.tok ((tables.get id).nbr.getD n (none, none)) = .ok c ∧
            t = { s with ctxOut := some (BitVec.ofNat 3 c) })) := by
  unfold runCtx checkTables
  cases checkScan sz kind with
  | error c => simp [bind, Except.bind]
  | ok id =>
    cases checkPos sz pos with
    | error c => simp [bind, Except.bind]
    | ok n =>
      cases s.tables with
      | none => simp [bind, Except.bind]
      | some tables =>
        by_cases hn : n = 0
        · subst hn
          simp [bind, Except.bind, pure, Except.pure, eq_comm]
        · simp only [bind, Except.bind, pure, Except.pure, if_neg hn]
          cases hc : contextOf s.tok ((tables.get id).nbr.getD n (none, none)) <;>
            simp [-List.getD_eq_getElem?_getD, hn, hc, eq_comm]

/-- What INIT can do: it builds the tables once. -/
theorem runInit_ok (s : State) :
    (∃ t, s.tables = some t ∧ runInit s = .ok s) ∨
      (s.tables = none ∧ runInit s = .ok { s with tables := some (buildTables s.scanRom) }) := by
  unfold runInit
  cases h : s.tables with
  | none => exact .inr ⟨rfl, rfl⟩
  | some t => exact .inl ⟨t, rfl, rfl⟩

/-- Every RECON.<TxType> is the shared semantics with its own type. -/
theorem exec_recon (t : TxType) (sz : TxSize) (bdsel : BitVec 2) (eob : BitVec 11) (s : State) :
    exec (t.instr sz bdsel eob) s = conclude (t.instr sz bdsel eob) s (runRecon t sz bdsel eob s) := by
  cases t <;> rfl

/-- Every KERN1D is the shared operation with its own kernel and size. -/
theorem exec_kern (k : KernelId) (bdsel : BitVec 2) (s : State) :
    exec (k.instr bdsel) s = conclude (k.instr bdsel) s (runKernel k.size (kernel k) bdsel s) := by
  cases k <;> rfl

end Sys2Proof.Machine
end

