-- ==== Sys2Proof/Laws/Encoding.lean ====
section
/-!
SUPPORT. The laws of the encodings: what each field of an encoded word holds, and that each enumeration is read back
from the field it is written to.
-/

namespace Sys2Proof

@[simp] theorem TxSize.ofField_toField (sz : TxSize) : TxSize.ofField sz.toField = sz := by cases sz <;> rfl

@[simp] theorem TxType.ofField_toField (t : TxType) : TxType.ofField t.toField = t := by cases t <;> rfl

@[simp] theorem KernelId.ofField_toField (k : KernelId) : KernelId.ofField k.toField = some k := by cases k <;> rfl

@[simp] theorem ScanKind.ofField_toField (k : ScanKind) : ScanKind.ofField k.toField = some k := by cases k <;> rfl

@[simp] theorem IntraMode.ofField_toField (m : IntraMode) : IntraMode.ofField m.toField = some m := by cases m <;> rfl

@[simp] theorem TxSize.toField_ofField (f : BitVec 2) : (TxSize.ofField f).toField = f := by revert f; decide

@[simp] theorem TxType.toField_ofField (f : BitVec 4) : (TxType.ofField f).toField = f := by revert f; decide

/-- A KID that names a kernel is that kernel's KID. -/
theorem KernelId.toField_of_ofField {f : BitVec 5} {k : KernelId} (h : KernelId.ofField f = some k) : k.toField = f := by
  have key : ∀ f : BitVec 5, ∀ k, KernelId.ofField f = some k → k.toField = f := by decide
  exact key f k h

/-! Each bit of an encoded word, then each field. -/

theorem encodeRecon_getLsbD (eob : BitVec 11) (bdsel : BitVec 2) (l : BitVec 1) (t : TxType) (sz : TxSize) (j : Nat) :
    (encodeRecon eob bdsel l t sz).getLsbD j = (0#8 ++ eob ++ bdsel ++ l ++ t.toField ++ sz.toField ++ 1#4).getLsbD j := rfl

@[simp] theorem encodeRecon_opc (eob : BitVec 11) (bdsel : BitVec 2) (l : BitVec 1) (t : TxType) (sz : TxSize) :
    field (encodeRecon eob bdsel l t sz) 0 4 = 1#4 := by
  apply BitVec.eq_of_getLsbD_eq
  intro i hi
  rw [field, BitVec.getLsbD_extractLsb', encodeRecon_getLsbD]
  simp only [BitVec.getLsbD_append]
  interval_cases i <;> simp

@[simp] theorem encodeRecon_size (eob : BitVec 11) (bdsel : BitVec 2) (l : BitVec 1) (t : TxType) (sz : TxSize) :
    field (encodeRecon eob bdsel l t sz) 4 2 = sz.toField := by
  apply BitVec.eq_of_getLsbD_eq
  intro i hi
  rw [field, BitVec.getLsbD_extractLsb', encodeRecon_getLsbD]
  simp only [BitVec.getLsbD_append]
  interval_cases i <;> simp

@[simp] theorem encodeRecon_type (eob : BitVec 11) (bdsel : BitVec 2) (l : BitVec 1) (t : TxType) (sz : TxSize) :
    field (encodeRecon eob bdsel l t sz) 6 4 = t.toField := by
  apply BitVec.eq_of_getLsbD_eq
  intro i hi
  rw [field, BitVec.getLsbD_extractLsb', encodeRecon_getLsbD]
  simp only [BitVec.getLsbD_append]
  interval_cases i <;> simp

@[simp] theorem encodeRecon_lossless (eob : BitVec 11) (bdsel : BitVec 2) (l : BitVec 1) (t : TxType) (sz : TxSize) :
    field (encodeRecon eob bdsel l t sz) 10 1 = l := by
  apply BitVec.eq_of_getLsbD_eq
  intro i hi
  rw [field, BitVec.getLsbD_extractLsb', encodeRecon_getLsbD]
  simp only [BitVec.getLsbD_append]
  interval_cases i
  simp

@[simp] theorem encodeRecon_bdsel (eob : BitVec 11) (bdsel : BitVec 2) (l : BitVec 1) (t : TxType) (sz : TxSize) :
    field (encodeRecon eob bdsel l t sz) 11 2 = bdsel := by
  apply BitVec.eq_of_getLsbD_eq
  intro i hi
  rw [field, BitVec.getLsbD_extractLsb', encodeRecon_getLsbD]
  simp only [BitVec.getLsbD_append]
  interval_cases i <;> simp

@[simp] theorem encodeRecon_eob (eob : BitVec 11) (bdsel : BitVec 2) (l : BitVec 1) (t : TxType) (sz : TxSize) :
    field (encodeRecon eob bdsel l t sz) 13 11 = eob := by
  apply BitVec.eq_of_getLsbD_eq
  intro i hi
  rw [field, BitVec.getLsbD_extractLsb', encodeRecon_getLsbD]
  simp only [BitVec.getLsbD_append]
  interval_cases i <;> simp

@[simp] theorem encodeRecon_reserved (eob : BitVec 11) (bdsel : BitVec 2) (l : BitVec 1) (t : TxType) (sz : TxSize) :
    field (encodeRecon eob bdsel l t sz) 24 8 = 0#8 := by
  apply BitVec.eq_of_getLsbD_eq
  intro i hi
  rw [field, BitVec.getLsbD_extractLsb', encodeRecon_getLsbD]
  simp only [BitVec.getLsbD_append]
  interval_cases i <;> simp

theorem encodeKern_getLsbD (k : KernelId) (bdsel : BitVec 2) (j : Nat) :
    (encodeKern k bdsel).getLsbD j = (0#19 ++ bdsel ++ 0#2 ++ k.toField ++ 2#4).getLsbD j := rfl

@[simp] theorem encodeKern_opc (k : KernelId) (bdsel : BitVec 2) :
    field (encodeKern k bdsel) 0 4 = 2#4 := by
  apply BitVec.eq_of_getLsbD_eq
  intro i hi
  rw [field, BitVec.getLsbD_extractLsb', encodeKern_getLsbD]
  simp only [BitVec.getLsbD_append]
  interval_cases i <;> simp

@[simp] theorem encodeKern_kid (k : KernelId) (bdsel : BitVec 2) :
    field (encodeKern k bdsel) 4 5 = k.toField := by
  apply BitVec.eq_of_getLsbD_eq
  intro i hi
  rw [field, BitVec.getLsbD_extractLsb', encodeKern_getLsbD]
  simp only [BitVec.getLsbD_append]
  interval_cases i <;> simp

@[simp] theorem encodeKern_low (k : KernelId) (bdsel : BitVec 2) :
    field (encodeKern k bdsel) 9 2 = 0#2 := by
  apply BitVec.eq_of_getLsbD_eq
  intro i hi
  rw [field, BitVec.getLsbD_extractLsb', encodeKern_getLsbD]
  simp only [BitVec.getLsbD_append]
  interval_cases i <;> simp

@[simp] theorem encodeKern_bdsel (k : KernelId) (bdsel : BitVec 2) :
    field (encodeKern k bdsel) 11 2 = bdsel := by
  apply BitVec.eq_of_getLsbD_eq
  intro i hi
  rw [field, BitVec.getLsbD_extractLsb', encodeKern_getLsbD]
  simp only [BitVec.getLsbD_append]
  interval_cases i <;> simp

@[simp] theorem encodeKern_high (k : KernelId) (bdsel : BitVec 2) :
    field (encodeKern k bdsel) 13 19 = 0#19 := by
  apply BitVec.eq_of_getLsbD_eq
  intro i hi
  rw [field, BitVec.getLsbD_extractLsb', encodeKern_getLsbD]
  simp only [BitVec.getLsbD_append]
  interval_cases i <;> simp

theorem encodeGetscan_getLsbD (sz : TxSize) (chroma isInter lossless : Bool) (mode : BitVec 4) (j : Nat) :
    (encodeGetscan sz chroma isInter lossless mode).getLsbD j = (0#19 ++ mode ++ BitVec.ofBool lossless ++ BitVec.ofBool isInter ++ BitVec.ofBool chroma ++ sz.toField ++ 4#4).getLsbD j := rfl

@[simp] theorem encodeGetscan_opc (sz : TxSize) (chroma isInter lossless : Bool) (mode : BitVec 4) :
    field (encodeGetscan sz chroma isInter lossless mode) 0 4 = 4#4 := by
  apply BitVec.eq_of_getLsbD_eq
  intro i hi
  rw [field, BitVec.getLsbD_extractLsb', encodeGetscan_getLsbD]
  simp only [BitVec.getLsbD_append]
  interval_cases i <;> simp

@[simp] theorem encodeGetscan_size (sz : TxSize) (chroma isInter lossless : Bool) (mode : BitVec 4) :
    field (encodeGetscan sz chroma isInter lossless mode) 4 2 = sz.toField := by
  apply BitVec.eq_of_getLsbD_eq
  intro i hi
  rw [field, BitVec.getLsbD_extractLsb', encodeGetscan_getLsbD]
  simp only [BitVec.getLsbD_append]
  interval_cases i <;> simp

@[simp] theorem encodeGetscan_mode (sz : TxSize) (chroma isInter lossless : Bool) (mode : BitVec 4) :
    field (encodeGetscan sz chroma isInter lossless mode) 9 4 = mode := by
  apply BitVec.eq_of_getLsbD_eq
  intro i hi
  rw [field, BitVec.getLsbD_extractLsb', encodeGetscan_getLsbD]
  simp only [BitVec.getLsbD_append]
  interval_cases i <;> simp

@[simp] theorem encodeGetscan_reserved (sz : TxSize) (chroma isInter lossless : Bool) (mode : BitVec 4) :
    field (encodeGetscan sz chroma isInter lossless mode) 13 19 = 0#19 := by
  apply BitVec.eq_of_getLsbD_eq
  intro i hi
  rw [field, BitVec.getLsbD_extractLsb', encodeGetscan_getLsbD]
  simp only [BitVec.getLsbD_append]
  interval_cases i <;> simp

theorem encodeScanpos_getLsbD (opc : BitVec 4) (sz : TxSize) (kind : BitVec 2) (pos : BitVec 11) (j : Nat) :
    (encodeScanpos opc sz kind pos).getLsbD j = (0#13 ++ pos ++ kind ++ sz.toField ++ opc).getLsbD j := rfl

@[simp] theorem encodeScanpos_opc (opc : BitVec 4) (sz : TxSize) (kind : BitVec 2) (pos : BitVec 11) :
    field (encodeScanpos opc sz kind pos) 0 4 = opc := by
  apply BitVec.eq_of_getLsbD_eq
  intro i hi
  rw [field, BitVec.getLsbD_extractLsb', encodeScanpos_getLsbD]
  simp only [BitVec.getLsbD_append]
  interval_cases i <;> simp

@[simp] theorem encodeScanpos_size (opc : BitVec 4) (sz : TxSize) (kind : BitVec 2) (pos : BitVec 11) :
    field (encodeScanpos opc sz kind pos) 4 2 = sz.toField := by
  apply BitVec.eq_of_getLsbD_eq
  intro i hi
  rw [field, BitVec.getLsbD_extractLsb', encodeScanpos_getLsbD]
  simp only [BitVec.getLsbD_append]
  interval_cases i <;> simp

@[simp] theorem encodeScanpos_kind (opc : BitVec 4) (sz : TxSize) (kind : BitVec 2) (pos : BitVec 11) :
    field (encodeScanpos opc sz kind pos) 6 2 = kind := by
  apply BitVec.eq_of_getLsbD_eq
  intro i hi
  rw [field, BitVec.getLsbD_extractLsb', encodeScanpos_getLsbD]
  simp only [BitVec.getLsbD_append]
  interval_cases i <;> simp

@[simp] theorem encodeScanpos_pos (opc : BitVec 4) (sz : TxSize) (kind : BitVec 2) (pos : BitVec 11) :
    field (encodeScanpos opc sz kind pos) 8 11 = pos := by
  apply BitVec.eq_of_getLsbD_eq
  intro i hi
  rw [field, BitVec.getLsbD_extractLsb', encodeScanpos_getLsbD]
  simp only [BitVec.getLsbD_append]
  interval_cases i <;> simp

@[simp] theorem encodeScanpos_reserved (opc : BitVec 4) (sz : TxSize) (kind : BitVec 2) (pos : BitVec 11) :
    field (encodeScanpos opc sz kind pos) 19 13 = 0#13 := by
  apply BitVec.eq_of_getLsbD_eq
  intro i hi
  rw [field, BitVec.getLsbD_extractLsb', encodeScanpos_getLsbD]
  simp only [BitVec.getLsbD_append]
  interval_cases i <;> simp

@[simp] theorem encodeGetscan_plane (sz : TxSize) (chroma isInter lossless : Bool) (mode : BitVec 4) :
    (encodeGetscan sz chroma isInter lossless mode)[6] = chroma := by
  rw [← BitVec.getLsbD_eq_getElem, encodeGetscan_getLsbD]
  simp only [BitVec.getLsbD_append]
  simp

@[simp] theorem encodeGetscan_inter (sz : TxSize) (chroma isInter lossless : Bool) (mode : BitVec 4) :
    (encodeGetscan sz chroma isInter lossless mode)[7] = isInter := by
  rw [← BitVec.getLsbD_eq_getElem, encodeGetscan_getLsbD]
  simp only [BitVec.getLsbD_append]
  simp

@[simp] theorem encodeGetscan_lossless (sz : TxSize) (chroma isInter lossless : Bool) (mode : BitVec 4) :
    (encodeGetscan sz chroma isInter lossless mode)[8] = lossless := by
  rw [← BitVec.getLsbD_eq_getElem, encodeGetscan_getLsbD]
  simp only [BitVec.getLsbD_append]
  simp

end Sys2Proof
end

