-- ==== Sys2Proof/Laws/State.lean ====
section
/-!
SUPPORT. What each named update of the state does to each field, so that no later proof unfolds a record update.
-/

namespace Sys2Proof.Machine

/-! The state after reset. -/

@[simp] theorem State.afterReset_params (p : Params) (rom : ScanRom) (pix : Memory 16) :
    (State.afterReset p rom pix).params = p := rfl

@[simp] theorem State.afterReset_scanRom (p : Params) (rom : ScanRom) (pix : Memory 16) :
    (State.afterReset p rom pix).scanRom = rom := rfl

@[simp] theorem State.afterReset_fault (p : Params) (rom : ScanRom) (pix : Memory 16) :
    (State.afterReset p rom pix).fault = none := rfl

@[simp] theorem State.afterReset_faultCmd (p : Params) (rom : ScanRom) (pix : Memory 16) :
    (State.afterReset p rom pix).faultCmd = 0#32 := rfl

@[simp] theorem State.afterReset_dstBase (p : Params) (rom : ScanRom) (pix : Memory 16) :
    (State.afterReset p rom pix).dstBase = none := rfl

@[simp] theorem State.afterReset_dstStride (p : Params) (rom : ScanRom) (pix : Memory 16) :
    (State.afterReset p rom pix).dstStride = none := rfl

@[simp] theorem State.afterReset_scanSel (p : Params) (rom : ScanRom) (pix : Memory 16) :
    (State.afterReset p rom pix).scanSel = none := rfl

@[simp] theorem State.afterReset_ctxOut (p : Params) (rom : ScanRom) (pix : Memory 16) :
    (State.afterReset p rom pix).ctxOut = none := rfl

@[simp] theorem State.afterReset_res0 (p : Params) (rom : ScanRom) (pix : Memory 16) :
    (State.afterReset p rom pix).res0 = none := rfl

@[simp] theorem State.afterReset_res1 (p : Params) (rom : ScanRom) (pix : Memory 16) :
    (State.afterReset p rom pix).res1 = none := rfl

@[simp] theorem State.afterReset_res2 (p : Params) (rom : ScanRom) (pix : Memory 16) :
    (State.afterReset p rom pix).res2 = none := rfl

@[simp] theorem State.afterReset_res3 (p : Params) (rom : ScanRom) (pix : Memory 16) :
    (State.afterReset p rom pix).res3 = none := rfl

@[simp] theorem State.afterReset_vin (p : Params) (rom : ScanRom) (pix : Memory 16) :
    (State.afterReset p rom pix).vin = [] := rfl

@[simp] theorem State.afterReset_vout (p : Params) (rom : ScanRom) (pix : Memory 16) :
    (State.afterReset p rom pix).vout = [] := rfl

@[simp] theorem State.afterReset_coef (p : Params) (rom : ScanRom) (pix : Memory 16) :
    (State.afterReset p rom pix).coef = [] := rfl

@[simp] theorem State.afterReset_tok (p : Params) (rom : ScanRom) (pix : Memory 16) :
    (State.afterReset p rom pix).tok = [] := rfl

@[simp] theorem State.afterReset_tables (p : Params) (rom : ScanRom) (pix : Memory 16) :
    (State.afterReset p rom pix).tables = none := rfl

@[simp] theorem State.afterReset_pix (p : Params) (rom : ScanRom) (pix : Memory 16) :
    (State.afterReset p rom pix).pix = pix := rfl

@[simp] theorem State.afterReset_drawCount (p : Params) (rom : ScanRom) (pix : Memory 16) :
    (State.afterReset p rom pix).drawCount = 0 := rfl

@[simp] theorem State.afterReset_host (p : Params) (rom : ScanRom) (pix : Memory 16) :
    (State.afterReset p rom pix).host = [] := rfl

@[simp] theorem State.afterReset_readData (p : Params) (rom : ScanRom) (pix : Memory 16) :
    (State.afterReset p rom pix).readData = none := rfl

/-! The platform's reset. -/

@[simp] theorem platformReset_params (s : State) : (platformReset s).params = s.params := rfl

@[simp] theorem platformReset_scanRom (s : State) : (platformReset s).scanRom = s.scanRom := rfl

@[simp] theorem platformReset_fault (s : State) : (platformReset s).fault = none := rfl

@[simp] theorem platformReset_faultCmd (s : State) : (platformReset s).faultCmd = 0#32 := rfl

@[simp] theorem platformReset_dstBase (s : State) : (platformReset s).dstBase = none := rfl

@[simp] theorem platformReset_dstStride (s : State) : (platformReset s).dstStride = none := rfl

@[simp] theorem platformReset_scanSel (s : State) : (platformReset s).scanSel = none := rfl

@[simp] theorem platformReset_ctxOut (s : State) : (platformReset s).ctxOut = none := rfl

@[simp] theorem platformReset_res0 (s : State) : (platformReset s).res0 = none := rfl

@[simp] theorem platformReset_res1 (s : State) : (platformReset s).res1 = none := rfl

@[simp] theorem platformReset_res2 (s : State) : (platformReset s).res2 = none := rfl

@[simp] theorem platformReset_res3 (s : State) : (platformReset s).res3 = none := rfl

@[simp] theorem platformReset_vin (s : State) : (platformReset s).vin = [] := rfl

@[simp] theorem platformReset_vout (s : State) : (platformReset s).vout = [] := rfl

@[simp] theorem platformReset_coef (s : State) : (platformReset s).coef = [] := rfl

@[simp] theorem platformReset_tok (s : State) : (platformReset s).tok = [] := rfl

@[simp] theorem platformReset_tables (s : State) : (platformReset s).tables = none := rfl

@[simp] theorem platformReset_pix (s : State) : (platformReset s).pix = s.pix := rfl

@[simp] theorem platformReset_drawCount (s : State) : (platformReset s).drawCount = s.drawCount := rfl

@[simp] theorem platformReset_host (s : State) : (platformReset s).host = s.host := rfl

@[simp] theorem platformReset_readData (s : State) : (platformReset s).readData = s.readData := rfl

/-! Taking ContractViolation. -/

/-- On an engine that is not faulted, ContractViolation records its cause and the command word. -/
theorem raise_of_none {c : Cause} {w : Word} {s : State} (h : s.fault = none) :
    raise c w s = { s with fault := some c, faultCmd := w } := by
  simp [raise, h]

/-- A faulted engine keeps its first fault. -/
theorem raise_of_some {c d : Cause} {w : Word} {s : State} (h : s.fault = some d) : raise c w s = s := by
  simp [raise, h]

@[simp] theorem raise_params (c : Cause) (w : Word) (s : State) : (raise c w s).params = s.params := by
  unfold raise; split <;> rfl

@[simp] theorem raise_scanRom (c : Cause) (w : Word) (s : State) : (raise c w s).scanRom = s.scanRom := by
  unfold raise; split <;> rfl

@[simp] theorem raise_dstBase (c : Cause) (w : Word) (s : State) : (raise c w s).dstBase = s.dstBase := by
  unfold raise; split <;> rfl

@[simp] theorem raise_dstStride (c : Cause) (w : Word) (s : State) : (raise c w s).dstStride = s.dstStride := by
  unfold raise; split <;> rfl

@[simp] theorem raise_scanSel (c : Cause) (w : Word) (s : State) : (raise c w s).scanSel = s.scanSel := by
  unfold raise; split <;> rfl

@[simp] theorem raise_ctxOut (c : Cause) (w : Word) (s : State) : (raise c w s).ctxOut = s.ctxOut := by
  unfold raise; split <;> rfl

@[simp] theorem raise_res0 (c : Cause) (w : Word) (s : State) : (raise c w s).res0 = s.res0 := by
  unfold raise; split <;> rfl

@[simp] theorem raise_res1 (c : Cause) (w : Word) (s : State) : (raise c w s).res1 = s.res1 := by
  unfold raise; split <;> rfl

@[simp] theorem raise_res2 (c : Cause) (w : Word) (s : State) : (raise c w s).res2 = s.res2 := by
  unfold raise; split <;> rfl

@[simp] theorem raise_res3 (c : Cause) (w : Word) (s : State) : (raise c w s).res3 = s.res3 := by
  unfold raise; split <;> rfl

@[simp] theorem raise_vin (c : Cause) (w : Word) (s : State) : (raise c w s).vin = s.vin := by
  unfold raise; split <;> rfl

@[simp] theorem raise_vout (c : Cause) (w : Word) (s : State) : (raise c w s).vout = s.vout := by
  unfold raise; split <;> rfl

@[simp] theorem raise_coef (c : Cause) (w : Word) (s : State) : (raise c w s).coef = s.coef := by
  unfold raise; split <;> rfl

@[simp] theorem raise_tok (c : Cause) (w : Word) (s : State) : (raise c w s).tok = s.tok := by
  unfold raise; split <;> rfl

@[simp] theorem raise_tables (c : Cause) (w : Word) (s : State) : (raise c w s).tables = s.tables := by
  unfold raise; split <;> rfl

@[simp] theorem raise_pix (c : Cause) (w : Word) (s : State) : (raise c w s).pix = s.pix := by
  unfold raise; split <;> rfl

@[simp] theorem raise_drawCount (c : Cause) (w : Word) (s : State) : (raise c w s).drawCount = s.drawCount := by
  unfold raise; split <;> rfl

@[simp] theorem raise_host (c : Cause) (w : Word) (s : State) : (raise c w s).host = s.host := by
  unfold raise; split <;> rfl

@[simp] theorem raise_readData (c : Cause) (w : Word) (s : State) : (raise c w s).readData = s.readData := by
  unfold raise; split <;> rfl

/-- After ContractViolation the engine is faulted. -/
@[simp] theorem raise_fault_isSome (c : Cause) (w : Word) (s : State) : (raise c w s).fault.isSome := by
  unfold raise; split <;> simp [*]

/-! The write-back of a RECON. -/

@[simp] theorem writeBack_params (sz : TxSize) (bd : BitDepth) (x : ReconInput) (premise : Bool) (res : Vec)
    (s : State) : (writeBack sz bd x premise res s).params = s.params := by
  unfold writeBack; split <;> rfl

@[simp] theorem writeBack_scanRom (sz : TxSize) (bd : BitDepth) (x : ReconInput) (premise : Bool) (res : Vec)
    (s : State) : (writeBack sz bd x premise res s).scanRom = s.scanRom := by
  unfold writeBack; split <;> rfl

@[simp] theorem writeBack_fault (sz : TxSize) (bd : BitDepth) (x : ReconInput) (premise : Bool) (res : Vec)
    (s : State) : (writeBack sz bd x premise res s).fault = s.fault := by
  unfold writeBack; split <;> rfl

@[simp] theorem writeBack_faultCmd (sz : TxSize) (bd : BitDepth) (x : ReconInput) (premise : Bool) (res : Vec)
    (s : State) : (writeBack sz bd x premise res s).faultCmd = s.faultCmd := by
  unfold writeBack; split <;> rfl

@[simp] theorem writeBack_dstBase (sz : TxSize) (bd : BitDepth) (x : ReconInput) (premise : Bool) (res : Vec)
    (s : State) : (writeBack sz bd x premise res s).dstBase = s.dstBase := by
  unfold writeBack; split <;> rfl

@[simp] theorem writeBack_dstStride (sz : TxSize) (bd : BitDepth) (x : ReconInput) (premise : Bool) (res : Vec)
    (s : State) : (writeBack sz bd x premise res s).dstStride = s.dstStride := by
  unfold writeBack; split <;> rfl

@[simp] theorem writeBack_scanSel (sz : TxSize) (bd : BitDepth) (x : ReconInput) (premise : Bool) (res : Vec)
    (s : State) : (writeBack sz bd x premise res s).scanSel = s.scanSel := by
  unfold writeBack; split <;> rfl

@[simp] theorem writeBack_ctxOut (sz : TxSize) (bd : BitDepth) (x : ReconInput) (premise : Bool) (res : Vec)
    (s : State) : (writeBack sz bd x premise res s).ctxOut = s.ctxOut := by
  unfold writeBack; split <;> rfl

@[simp] theorem writeBack_res0 (sz : TxSize) (bd : BitDepth) (x : ReconInput) (premise : Bool) (res : Vec)
    (s : State) : (writeBack sz bd x premise res s).res0 = s.res0 := by
  unfold writeBack; split <;> rfl

@[simp] theorem writeBack_res1 (sz : TxSize) (bd : BitDepth) (x : ReconInput) (premise : Bool) (res : Vec)
    (s : State) : (writeBack sz bd x premise res s).res1 = s.res1 := by
  unfold writeBack; split <;> rfl

@[simp] theorem writeBack_res2 (sz : TxSize) (bd : BitDepth) (x : ReconInput) (premise : Bool) (res : Vec)
    (s : State) : (writeBack sz bd x premise res s).res2 = s.res2 := by
  unfold writeBack; split <;> rfl

@[simp] theorem writeBack_res3 (sz : TxSize) (bd : BitDepth) (x : ReconInput) (premise : Bool) (res : Vec)
    (s : State) : (writeBack sz bd x premise res s).res3 = s.res3 := by
  unfold writeBack; split <;> rfl

@[simp] theorem writeBack_vin (sz : TxSize) (bd : BitDepth) (x : ReconInput) (premise : Bool) (res : Vec)
    (s : State) : (writeBack sz bd x premise res s).vin = s.vin := by
  unfold writeBack; split <;> rfl

@[simp] theorem writeBack_vout (sz : TxSize) (bd : BitDepth) (x : ReconInput) (premise : Bool) (res : Vec)
    (s : State) : (writeBack sz bd x premise res s).vout = s.vout := by
  unfold writeBack; split <;> rfl

@[simp] theorem writeBack_tok (sz : TxSize) (bd : BitDepth) (x : ReconInput) (premise : Bool) (res : Vec)
    (s : State) : (writeBack sz bd x premise res s).tok = s.tok := by
  unfold writeBack; split <;> rfl

@[simp] theorem writeBack_tables (sz : TxSize) (bd : BitDepth) (x : ReconInput) (premise : Bool) (res : Vec)
    (s : State) : (writeBack sz bd x premise res s).tables = s.tables := by
  unfold writeBack; split <;> rfl

@[simp] theorem writeBack_host (sz : TxSize) (bd : BitDepth) (x : ReconInput) (premise : Bool) (res : Vec)
    (s : State) : (writeBack sz bd x premise res s).host = s.host := by
  unfold writeBack; split <;> rfl

@[simp] theorem writeBack_readData (sz : TxSize) (bd : BitDepth) (x : ReconInput) (premise : Bool) (res : Vec)
    (s : State) : (writeBack sz bd x premise res s).readData = s.readData := by
  unfold writeBack; split <;> rfl

@[simp] theorem writeBack_coef (sz : TxSize) (bd : BitDepth) (x : ReconInput) (premise : Bool) (res : Vec)
    (s : State) : (writeBack sz bd x premise res s).coef = s.coef.eraseBelow sz.area := by
  unfold writeBack; split <;> rfl

@[simp] theorem writeBack_pix_true (sz : TxSize) (bd : BitDepth) (x : ReconInput) (res : Vec) (s : State) :
    (writeBack sz bd x true res s).pix = s.pix.writeAll (sampleWrites sz bd x res) := rfl

@[simp] theorem writeBack_pix_false (sz : TxSize) (bd : BitDepth) (x : ReconInput) (res : Vec) (s : State) :
    (writeBack sz bd x false res s).pix = s.pix.writeAll (drawWrites sz bd x.block s.drawCount) := rfl

@[simp] theorem writeBack_drawCount_true (sz : TxSize) (bd : BitDepth) (x : ReconInput) (res : Vec) (s : State) :
    (writeBack sz bd x true res s).drawCount = s.drawCount := rfl

@[simp] theorem writeBack_drawCount_false (sz : TxSize) (bd : BitDepth) (x : ReconInput) (res : Vec) (s : State) :
    (writeBack sz bd x false res s).drawCount = s.drawCount + sz.area := rfl

/-! Placing a command. -/

@[simp] theorem withFetchWord_params (s : State) (nbits w : Nat) : (s.withFetchWord nbits w).params = s.params := rfl

@[simp] theorem withFetchWord_scanRom (s : State) (nbits w : Nat) : (s.withFetchWord nbits w).scanRom = s.scanRom := rfl

@[simp] theorem withFetchWord_fault (s : State) (nbits w : Nat) : (s.withFetchWord nbits w).fault = s.fault := rfl

@[simp] theorem withFetchWord_faultCmd (s : State) (nbits w : Nat) : (s.withFetchWord nbits w).faultCmd = s.faultCmd := rfl

@[simp] theorem withFetchWord_dstBase (s : State) (nbits w : Nat) : (s.withFetchWord nbits w).dstBase = s.dstBase := rfl

@[simp] theorem withFetchWord_dstStride (s : State) (nbits w : Nat) : (s.withFetchWord nbits w).dstStride = s.dstStride := rfl

@[simp] theorem withFetchWord_scanSel (s : State) (nbits w : Nat) : (s.withFetchWord nbits w).scanSel = s.scanSel := rfl

@[simp] theorem withFetchWord_ctxOut (s : State) (nbits w : Nat) : (s.withFetchWord nbits w).ctxOut = s.ctxOut := rfl

@[simp] theorem withFetchWord_res0 (s : State) (nbits w : Nat) : (s.withFetchWord nbits w).res0 = s.res0 := rfl

@[simp] theorem withFetchWord_res1 (s : State) (nbits w : Nat) : (s.withFetchWord nbits w).res1 = s.res1 := rfl

@[simp] theorem withFetchWord_res2 (s : State) (nbits w : Nat) : (s.withFetchWord nbits w).res2 = s.res2 := rfl

@[simp] theorem withFetchWord_res3 (s : State) (nbits w : Nat) : (s.withFetchWord nbits w).res3 = s.res3 := rfl

@[simp] theorem withFetchWord_vin (s : State) (nbits w : Nat) : (s.withFetchWord nbits w).vin = s.vin := rfl

@[simp] theorem withFetchWord_vout (s : State) (nbits w : Nat) : (s.withFetchWord nbits w).vout = s.vout := rfl

@[simp] theorem withFetchWord_coef (s : State) (nbits w : Nat) : (s.withFetchWord nbits w).coef = s.coef := rfl

@[simp] theorem withFetchWord_tok (s : State) (nbits w : Nat) : (s.withFetchWord nbits w).tok = s.tok := rfl

@[simp] theorem withFetchWord_tables (s : State) (nbits w : Nat) : (s.withFetchWord nbits w).tables = s.tables := rfl

@[simp] theorem withFetchWord_pix (s : State) (nbits w : Nat) : (s.withFetchWord nbits w).pix = s.pix := rfl

@[simp] theorem withFetchWord_drawCount (s : State) (nbits w : Nat) : (s.withFetchWord nbits w).drawCount = s.drawCount := rfl

@[simp] theorem withFetchWord_readData (s : State) (nbits w : Nat) : (s.withFetchWord nbits w).readData = s.readData := rfl

@[simp] theorem withFetchWord_host (s : State) (nbits w : Nat) :
    (s.withFetchWord nbits w).host = .write 0 (BitVec.ofNat 32 (w % 2 ^ nbits)) :: s.host := rfl

/-! A host write to a register address. -/

@[simp] theorem hostStore_params (s : State) (addr : Nat) (v : Word) : (hostStore s addr v).params = s.params := by
  unfold hostStore; split <;> rfl

@[simp] theorem hostStore_scanRom (s : State) (addr : Nat) (v : Word) : (hostStore s addr v).scanRom = s.scanRom := by
  unfold hostStore; split <;> rfl

@[simp] theorem hostStore_fault (s : State) (addr : Nat) (v : Word) : (hostStore s addr v).fault = s.fault := by
  unfold hostStore; split <;> rfl

@[simp] theorem hostStore_faultCmd (s : State) (addr : Nat) (v : Word) : (hostStore s addr v).faultCmd = s.faultCmd := by
  unfold hostStore; split <;> rfl

@[simp] theorem hostStore_scanSel (s : State) (addr : Nat) (v : Word) : (hostStore s addr v).scanSel = s.scanSel := by
  unfold hostStore; split <;> rfl

@[simp] theorem hostStore_ctxOut (s : State) (addr : Nat) (v : Word) : (hostStore s addr v).ctxOut = s.ctxOut := by
  unfold hostStore; split <;> rfl

@[simp] theorem hostStore_res0 (s : State) (addr : Nat) (v : Word) : (hostStore s addr v).res0 = s.res0 := by
  unfold hostStore; split <;> rfl

@[simp] theorem hostStore_res1 (s : State) (addr : Nat) (v : Word) : (hostStore s addr v).res1 = s.res1 := by
  unfold hostStore; split <;> rfl

@[simp] theorem hostStore_res2 (s : State) (addr : Nat) (v : Word) : (hostStore s addr v).res2 = s.res2 := by
  unfold hostStore; split <;> rfl

@[simp] theorem hostStore_res3 (s : State) (addr : Nat) (v : Word) : (hostStore s addr v).res3 = s.res3 := by
  unfold hostStore; split <;> rfl

@[simp] theorem hostStore_vout (s : State) (addr : Nat) (v : Word) : (hostStore s addr v).vout = s.vout := by
  unfold hostStore; split <;> rfl

@[simp] theorem hostStore_tables (s : State) (addr : Nat) (v : Word) : (hostStore s addr v).tables = s.tables := by
  unfold hostStore; split <;> rfl

@[simp] theorem hostStore_pix (s : State) (addr : Nat) (v : Word) : (hostStore s addr v).pix = s.pix := by
  unfold hostStore; split <;> rfl

@[simp] theorem hostStore_drawCount (s : State) (addr : Nat) (v : Word) : (hostStore s addr v).drawCount = s.drawCount := by
  unfold hostStore; split <;> rfl

@[simp] theorem hostStore_host (s : State) (addr : Nat) (v : Word) : (hostStore s addr v).host = s.host := by
  unfold hostStore; split <;> rfl

@[simp] theorem hostStore_readData (s : State) (addr : Nat) (v : Word) : (hostStore s addr v).readData = s.readData := by
  unfold hostStore; split <;> rfl

end Sys2Proof.Machine
end

