-- ==== Sys2Proof/Laws/Exec.lean ====
section
/-!
SUPPORT. What a command can do, said once: its own family's effect, or ContractViolation. The whole-machine claims
follow from these cases, with no command unfolded again.
-/

namespace Sys2Proof.Machine

/-- The parts of the state a command of each family may change when it completes. -/
inductive Effect (s : State) : Instr → State → Prop where
  /-- A RECON changes PIX, COEF and the model's draw counter. -/
  | recon (i : Instr) (m : Memory 16) (cs : Memory 32) (d : Nat) (h : isRecon i = true) :
    Effect s i { s with pix := m, coef := cs, drawCount := d }
  /-- A KERN1D changes VOUT. -/
  | kern (k : KernelId) (bdsel : BitVec 2) (m : Memory 32) : Effect s (k.instr bdsel) { s with vout := m }
  /-- The first INIT builds the tables. -/
  | init (h : s.tables = none) : Effect s .init { s with tables := some (buildTables s.scanRom) }
  /-- A further INIT changes nothing. -/
  | initAgain (h : s.tables ≠ none) : Effect s .init s
  /-- GETSCAN changes SCAN_SEL. -/
  | getscan (sz : TxSize) (chroma isInter lossless : Bool) (mode : BitVec 4) (v : Option (BitVec 4)) :
    Effect s (.getscan sz chroma isInter lossless mode) { s with scanSel := v }
  /-- SCANLOOKUP changes RES0 to RES3. -/
  | scanlookup (sz : TxSize) (kind : BitVec 2) (pos : BitVec 11) (r0 r1 r2 r3 : Option Word) :
    Effect s (.scanlookup sz kind pos) { s with res0 := r0, res1 := r1, res2 := r2, res3 := r3 }
  /-- CTX changes CTX_OUT. -/
  | ctx (sz : TxSize) (kind : BitVec 2) (pos : BitVec 11) (v : Option (BitVec 3)) :
    Effect s (.ctx sz kind pos) { s with ctxOut := v }

/-- The write-back changes PIX, COEF and the draw counter. -/
theorem writeBack_effect {i : Instr} (h : isRecon i = true) (sz : TxSize) (bd : BitDepth) (x : ReconInput)
    (premise : Bool) (res : Vec) (s : State) : Effect s i (writeBack sz bd x premise res s) := by
  unfold writeBack
  split
  · exact .recon i _ _ s.drawCount h
  · exact .recon i _ _ _ h

/-- A RECON.<TxType> that completes has the RECON effect. -/
theorem runRecon_effect {i : Instr} (hi : isRecon i = true) {t : TxType} {sz : TxSize} {bdsel : BitVec 2}
    {eob : BitVec 11} {s u : State} (h : runRecon t sz bdsel eob s = .ok u) : Effect s i u := by
  obtain ⟨bd, x, -, -, -, -, rfl⟩ := runRecon_ok.1 h
  exact writeBack_effect hi _ _ _ _ _ _

/-- RECON.WHT that completes has the RECON effect. -/
theorem runWht_effect {bdsel : BitVec 2} {eob : BitVec 11} {s u : State} (h : runWht bdsel eob s = .ok u) :
    Effect s (.reconWht bdsel eob) u := by
  obtain ⟨bd, x, -, -, -, rfl⟩ := runWht_ok.1 h
  exact writeBack_effect rfl _ _ _ _ _ _

/-- A KERN1D that completes has the KERN1D effect. -/
theorem runKernel_effect (k : KernelId) {bdsel : BitVec 2} {s u : State}
    (h : runKernel k.size (kernel k) bdsel s = .ok u) : Effect s (k.instr bdsel) u := by
  obtain ⟨bd, lanes, -, -, rfl⟩ := runKernel_ok.1 h
  exact .kern k bdsel _

/-- INIT that completes has the INIT effect. -/
theorem runInit_effect {s u : State} (h : runInit s = .ok u) : Effect s .init u := by
  rcases runInit_ok s with ⟨t, ht, h'⟩ | ⟨ht, h'⟩
  · rw [h'] at h
    cases h
    exact .initAgain (by simp [ht])
  · rw [h'] at h
    cases h
    exact .init ht

/-- GETSCAN that completes has the GETSCAN effect. -/
theorem runGetscan_effect {sz : TxSize} {chroma isInter lossless : Bool} {mode : BitVec 4} {s u : State}
    (h : runGetscan sz chroma isInter lossless mode s = .ok u) : Effect s (.getscan sz chroma isInter lossless mode) u := by
  obtain ⟨m, tables, -, -, -, rfl⟩ := runGetscan_ok.1 h
  exact .getscan _ _ _ _ _ _

/-- SCANLOOKUP that completes has the SCANLOOKUP effect. -/
theorem runScanlookup_effect {sz : TxSize} {kind : BitVec 2} {pos : BitVec 11} {s u : State}
    (h : runScanlookup sz kind pos s = .ok u) : Effect s (.scanlookup sz kind pos) u := by
  obtain ⟨id, p, tables, -, -, -, rfl⟩ := runScanlookup_ok.1 h
  exact .scanlookup _ _ _ _ _ _ _

/-- CTX that completes has the CTX effect. -/
theorem runCtx_effect {sz : TxSize} {kind : BitVec 2} {pos : BitVec 11} {s u : State}
    (h : runCtx sz kind pos s = .ok u) : Effect s (.ctx sz kind pos) u := by
  obtain ⟨id, n, tables, -, -, -, ⟨-, rfl⟩ | ⟨-, c, -, rfl⟩⟩ := runCtx_ok.1 h
  · exact .ctx _ _ _ _
  · exact .ctx _ _ _ _

/-- A concluded command has its effect or takes ContractViolation with its own word. -/
theorem conclude_effect {i : Instr} {s : State} {r : Except Cause State} (h : ∀ u, r = .ok u → Effect s i u) :
    (∃ u, conclude i s r = .next u ∧ Effect s i u) ∨ ∃ c, conclude i s r = .next (raise c (encode i) s) := by
  cases r with
  | ok u => exact .inl ⟨u, rfl, h u rfl⟩
  | error c => exact .inr ⟨c, rfl⟩

/-- What any command does: its family's effect, or ContractViolation with its own word. -/
theorem exec_cases (i : Instr) (s : State) :
    (∃ u, exec i s = .next u ∧ Effect s i u) ∨ ∃ c, exec i s = .next (raise c (encode i) s) := by
  cases i with
  | reconDctDct | reconAdstDct | reconDctAdst | reconAdstAdst | reconFlipadstDct | reconDctFlipadst
  | reconFlipadstFlipadst | reconAdstFlipadst | reconFlipadstAdst | reconIdtx | reconVDct | reconHDct | reconVAdst
  | reconHAdst | reconVFlipadst | reconHFlipadst => exact conclude_effect (fun u => runRecon_effect rfl)
  | reconWht => exact conclude_effect (fun u => runWht_effect)
  | kernIdct4 => exact conclude_effect (fun u => runKernel_effect .idct4)
  | kernIdct8 => exact conclude_effect (fun u => runKernel_effect .idct8)
  | kernIdct16 => exact conclude_effect (fun u => runKernel_effect .idct16)
  | kernIdct32 => exact conclude_effect (fun u => runKernel_effect .idct32)
  | kernIadst4 => exact conclude_effect (fun u => runKernel_effect .iadst4)
  | kernIadst8 => exact conclude_effect (fun u => runKernel_effect .iadst8)
  | kernIadst16 => exact conclude_effect (fun u => runKernel_effect .iadst16)
  | kernIhalfright32 => exact conclude_effect (fun u => runKernel_effect .ihalfright32)
  | kernIidtx4 => exact conclude_effect (fun u => runKernel_effect .iidtx4)
  | kernIidtx8 => exact conclude_effect (fun u => runKernel_effect .iidtx8)
  | kernIidtx16 => exact conclude_effect (fun u => runKernel_effect .iidtx16)
  | kernIidtx32 => exact conclude_effect (fun u => runKernel_effect .iidtx32)
  | kernIwht4 => exact conclude_effect (fun u => runKernel_effect .iwht4)
  | init => exact conclude_effect (fun u => runInit_effect)
  | getscan => exact conclude_effect (fun u => runGetscan_effect)
  | scanlookup => exact conclude_effect (fun u => runScanlookup_effect)
  | ctx => exact conclude_effect (fun u => runCtx_effect)

/-- What a command word does on an engine: it is decoded and run, or takes ContractViolation. -/
theorem runWord_cases (w : Word) (s : State) :
    (∃ i, decode s.params w = .ok i ∧ runWord w s = exec i s) ∨
      ∃ c, decode s.params w = .error c ∧ runWord w s = .next (raise c w s) := by
  unfold runWord
  cases h : decode s.params w with
  | ok i => exact .inl ⟨i, rfl, rfl⟩
  | error c => exact .inr ⟨c, rfl, rfl⟩

/-- A choice between two values that differ from a third differs from it. -/
theorem ite_ne {α : Type} {p : Prop} [Decidable p] {a b c : α} (ha : a ≠ c) (hb : b ≠ c) :
    (if p then a else b) ≠ c := by
  split
  · exact ha
  · exact hb

/-- The address of CMD is 0x0000 and no other. -/
theorem hostReg_cmd {addr : Nat} : hostReg addr = .cmd ↔ addr = 0 := by
  by_cases h : addr = 0
  · subst h
    exact ⟨fun _ => rfl, fun _ => rfl⟩
  · refine ⟨fun hc => absurd hc ?_, fun hc => absurd hc h⟩
    rw [hostReg, if_neg h]
    repeat' apply ite_ne
    all_goals exact HostReg.noConfusion

/-- A host write to CMD. -/
theorem hostWrite_cmd (w : Word) (s : State) : hostWrite 0 w s = writeCmd w s := rfl

/-- A host write to any other address stores what the register map lets it store. -/
theorem hostWrite_other {addr : Nat} (h : addr ≠ 0) (w : Word) (s : State) :
    hostWrite addr w s = .next (hostStore s addr w) := by
  unfold hostWrite
  split
  · rename_i hc
    exact absurd (hostReg_cmd.1 hc) h
  · rfl

end Sys2Proof.Machine
end

