-- ==== Sys2Proof/Laws/Kernels.lean ====
section
/-!
SUPPORT. The laws of the arithmetic primitives, the kernels and the 2-D passes: ranges, lengths and lanes.
-/

namespace Sys2Proof.Machine

/-- The wrap of 0 is 0. -/
@[simp] theorem W_zero (n : Nat) : W n 0 = 0 := by simp [W, sext]

/-- The rounding shift of 0 is 0. -/
@[simp] theorem R_zero : R 0 = 0 := by decide

/-- `R` spelled out. -/
theorem R_eq (x : Int) : R x = (x + 8192) / 16384 := by simp [R, RPT, asr]

/-- A wrapped value is at least the least value of its width. -/
theorem W_lower {n : Nat} (h : 0 < n) (x : Int) : -(2 ^ (n - 1) : Int) ≤ W n x := by
  obtain ⟨m, rfl⟩ : ∃ m, n = m + 1 := ⟨n - 1, by omega⟩
  have hp : 0 < 2 ^ (m + 1) := Nat.pow_pos (by decide)
  have := Int.le_bmod (x := x) hp
  simp only [W, sext, Nat.add_sub_cancel]
  rw [Nat.pow_succ] at this ⊢
  push_cast at this ⊢
  omega

/-- A wrapped value is below the bound of its width. -/
theorem W_upper {n : Nat} (h : 0 < n) (x : Int) : W n x < 2 ^ (n - 1) := by
  obtain ⟨m, rfl⟩ : ∃ m, n = m + 1 := ⟨n - 1, by omega⟩
  have hp : 0 < 2 ^ (m + 1) := Nat.pow_pos (by decide)
  have := Int.bmod_lt (x := x) hp
  simp only [W, sext, Nat.add_sub_cancel]
  rw [Nat.pow_succ] at this ⊢
  push_cast at this ⊢
  omega

/-- Wrapping twice is wrapping once. -/
@[simp] theorem W_W (n : Nat) (x : Int) : W n (W n x) = W n x := by simp [W, sext]

/-- Every kernel's output has the kernel's length. -/
@[simp] theorem kernel_length (k : KernelId) (n : Nat) (X : Vec) : (kernel k n X).length = k.size := by
  cases k <;> rfl

/-- The lanes a kernel writes are lanes 0 to N − 1, each once. -/
@[simp] theorem laneWrites_fst (size : Nat) (y : Vec) : (laneWrites size y).map Prod.fst = List.range size := by
  simp [laneWrites, Function.comp_def]

/-- Lane `k` of what a kernel writes. -/
theorem mem_laneWrites {size : Nat} {y : Vec} {k : Nat} (h : k < size) :
    (k, BitVec.ofInt 32 (y.at k)) ∈ laneWrites size y :=
  List.mem_map.2 ⟨k, List.mem_range.2 h, rfl⟩

/-- A lane of a mapped range. -/
theorem Vec.at_map_range (N k : Nat) (f : Nat → Int) (h : k < N) : Vec.at ((List.range N).map f) k = f k := by
  simp [Vec.at, h]

end Sys2Proof.Machine
end

