-- ==== Sys2Proof/Laws/PerInstr.lean ====
section
/-!
SUPPORT. The family TableRow: the word of every command matches that command's row of the opcode table
(30_encoding R114).
-/

namespace Sys2Proof.Laws.TableRow

open Sys2Proof

/-- The word of the command matches its row of spec/opcode_table.json. -/
def Statement (i : Instr) : Prop := (opRow i).matches (encode i) = true

/-- The F_RECON words of a type match its row. -/
theorem recon (t : TxType) (sz : TxSize) (bdsel : BitVec 2) (eob : BitVec 11) :
    (opRowRecon t).matches (encodeRecon eob bdsel 0#1 t sz) = true := by
  simp only [OpRow.matches, opRowRecon, beq_iff_eq]
  apply BitVec.eq_of_getLsbD_eq
  intro i hi
  rw [BitVec.getLsbD_and, encodeRecon_getLsbD]
  simp only [BitVec.getLsbD_append]
  interval_cases i <;> simp

/-- The F_KERN words of a kernel match its row. -/
theorem kern (k : KernelId) (bdsel : BitVec 2) : (opRowKern k).matches (encodeKern k bdsel) = true := by
  simp only [OpRow.matches, opRowKern, beq_iff_eq]
  apply BitVec.eq_of_getLsbD_eq
  intro i hi
  rw [BitVec.getLsbD_and, encodeKern_getLsbD]
  simp only [BitVec.getLsbD_append]
  interval_cases i <;> simp

/-- The F_SCANPOS words of an opcode match its row. -/
theorem scanpos (opc : BitVec 4) (sz : TxSize) (kind : BitVec 2) (pos : BitVec 11) :
    OpRow.matches (0xFFF8000F#32, 0#28 ++ opc) (encodeScanpos opc sz kind pos) = true := by
  simp only [OpRow.matches, beq_iff_eq]
  apply BitVec.eq_of_getLsbD_eq
  intro i hi
  rw [BitVec.getLsbD_and, encodeScanpos_getLsbD]
  simp only [BitVec.getLsbD_append]
  interval_cases i <;> simp

theorem reconDctDct (sz : TxSize) (bdsel : BitVec 2) (eob : BitVec 11) : Statement (.reconDctDct sz bdsel eob) :=
  recon .dctDct sz bdsel eob

theorem reconAdstDct (sz : TxSize) (bdsel : BitVec 2) (eob : BitVec 11) : Statement (.reconAdstDct sz bdsel eob) :=
  recon .adstDct sz bdsel eob

theorem reconDctAdst (sz : TxSize) (bdsel : BitVec 2) (eob : BitVec 11) : Statement (.reconDctAdst sz bdsel eob) :=
  recon .dctAdst sz bdsel eob

theorem reconAdstAdst (sz : TxSize) (bdsel : BitVec 2) (eob : BitVec 11) : Statement (.reconAdstAdst sz bdsel eob) :=
  recon .adstAdst sz bdsel eob

theorem reconFlipadstDct (sz : TxSize) (bdsel : BitVec 2) (eob : BitVec 11) : Statement (.reconFlipadstDct sz bdsel eob) :=
  recon .flipadstDct sz bdsel eob

theorem reconDctFlipadst (sz : TxSize) (bdsel : BitVec 2) (eob : BitVec 11) : Statement (.reconDctFlipadst sz bdsel eob) :=
  recon .dctFlipadst sz bdsel eob

theorem reconFlipadstFlipadst (sz : TxSize) (bdsel : BitVec 2) (eob : BitVec 11) : Statement (.reconFlipadstFlipadst sz bdsel eob) :=
  recon .flipadstFlipadst sz bdsel eob

theorem reconAdstFlipadst (sz : TxSize) (bdsel : BitVec 2) (eob : BitVec 11) : Statement (.reconAdstFlipadst sz bdsel eob) :=
  recon .adstFlipadst sz bdsel eob

theorem reconFlipadstAdst (sz : TxSize) (bdsel : BitVec 2) (eob : BitVec 11) : Statement (.reconFlipadstAdst sz bdsel eob) :=
  recon .flipadstAdst sz bdsel eob

theorem reconIdtx (sz : TxSize) (bdsel : BitVec 2) (eob : BitVec 11) : Statement (.reconIdtx sz bdsel eob) :=
  recon .idtx sz bdsel eob

theorem reconVDct (sz : TxSize) (bdsel : BitVec 2) (eob : BitVec 11) : Statement (.reconVDct sz bdsel eob) :=
  recon .vDct sz bdsel eob

theorem reconHDct (sz : TxSize) (bdsel : BitVec 2) (eob : BitVec 11) : Statement (.reconHDct sz bdsel eob) :=
  recon .hDct sz bdsel eob

theorem reconVAdst (sz : TxSize) (bdsel : BitVec 2) (eob : BitVec 11) : Statement (.reconVAdst sz bdsel eob) :=
  recon .vAdst sz bdsel eob

theorem reconHAdst (sz : TxSize) (bdsel : BitVec 2) (eob : BitVec 11) : Statement (.reconHAdst sz bdsel eob) :=
  recon .hAdst sz bdsel eob

theorem reconVFlipadst (sz : TxSize) (bdsel : BitVec 2) (eob : BitVec 11) : Statement (.reconVFlipadst sz bdsel eob) :=
  recon .vFlipadst sz bdsel eob

theorem reconHFlipadst (sz : TxSize) (bdsel : BitVec 2) (eob : BitVec 11) : Statement (.reconHFlipadst sz bdsel eob) :=
  recon .hFlipadst sz bdsel eob

theorem reconWht (bdsel : BitVec 2) (eob : BitVec 11) : Statement (.reconWht bdsel eob) := by
  simp only [Statement, opRow, encode, OpRow.matches, beq_iff_eq]
  apply BitVec.eq_of_getLsbD_eq
  intro i hi
  rw [BitVec.getLsbD_and, encodeRecon_getLsbD]
  simp only [BitVec.getLsbD_append]
  interval_cases i <;> simp [TxType.toField, TxSize.toField]

theorem kernIdct4 (bdsel : BitVec 2) : Statement (.kernIdct4 bdsel) := kern .idct4 bdsel

theorem kernIdct8 (bdsel : BitVec 2) : Statement (.kernIdct8 bdsel) := kern .idct8 bdsel

theorem kernIdct16 (bdsel : BitVec 2) : Statement (.kernIdct16 bdsel) := kern .idct16 bdsel

theorem kernIdct32 (bdsel : BitVec 2) : Statement (.kernIdct32 bdsel) := kern .idct32 bdsel

theorem kernIadst4 (bdsel : BitVec 2) : Statement (.kernIadst4 bdsel) := kern .iadst4 bdsel

theorem kernIadst8 (bdsel : BitVec 2) : Statement (.kernIadst8 bdsel) := kern .iadst8 bdsel

theorem kernIadst16 (bdsel : BitVec 2) : Statement (.kernIadst16 bdsel) := kern .iadst16 bdsel

theorem kernIhalfright32 (bdsel : BitVec 2) : Statement (.kernIhalfright32 bdsel) := kern .ihalfright32 bdsel

theorem kernIidtx4 (bdsel : BitVec 2) : Statement (.kernIidtx4 bdsel) := kern .iidtx4 bdsel

theorem kernIidtx8 (bdsel : BitVec 2) : Statement (.kernIidtx8 bdsel) := kern .iidtx8 bdsel

theorem kernIidtx16 (bdsel : BitVec 2) : Statement (.kernIidtx16 bdsel) := kern .iidtx16 bdsel

theorem kernIidtx32 (bdsel : BitVec 2) : Statement (.kernIidtx32 bdsel) := kern .iidtx32 bdsel

theorem kernIwht4 (bdsel : BitVec 2) : Statement (.kernIwht4 bdsel) := kern .iwht4 bdsel

theorem init : Statement .init := rfl

theorem getscan (sz : TxSize) (chroma isInter lossless : Bool) (mode : BitVec 4) : Statement (.getscan sz chroma isInter lossless mode) := by
  simp only [Statement, opRow, encode, OpRow.matches, beq_iff_eq]
  apply BitVec.eq_of_getLsbD_eq
  intro i hi
  rw [BitVec.getLsbD_and, encodeGetscan_getLsbD]
  simp only [BitVec.getLsbD_append]
  interval_cases i <;> simp

theorem scanlookup (sz : TxSize) (kind : BitVec 2) (pos : BitVec 11) : Statement (.scanlookup sz kind pos) :=
  scanpos 5#4 sz kind pos

theorem ctx (sz : TxSize) (kind : BitVec 2) (pos : BitVec 11) : Statement (.ctx sz kind pos) :=
  scanpos 6#4 sz kind pos

end Sys2Proof.Laws.TableRow
end

