-- ==== Sys2Proof/Laws/Transform.lean ====
section
/-!
SUPPORT. The laws of blocks in raster order, of the separable transform and of the write-back's cell lists.
-/

namespace Sys2Proof.Machine

@[simp] theorem block_length (N : Nat) (f : Nat → Nat → Int) : (block N f).length = N * N := by simp [block]

/-- A raster index is below the block's area. -/
theorem raster_lt {N i j : Nat} (hi : i < N) (hj : j < N) : i * N + j < N * N := by
  have h := Nat.mul_le_mul_right N (show i + 1 ≤ N by omega)
  rw [Nat.add_mul] at h
  omega

/-- Entry `[i][j]` of a block given by its entries. -/
theorem cell_block {N i j : Nat} (f : Nat → Nat → Int) (hi : i < N) (hj : j < N) : cell N (block N f) i j = f i j := by
  have h1 : (i * N + j) / N = i := by
    rw [Nat.mul_comm, Nat.mul_add_div (by omega), Nat.div_eq_of_lt hj, Nat.add_zero]
  have h2 : (i * N + j) % N = j := by rw [Nat.mul_comm, Nat.mul_add_mod, Nat.mod_eq_of_lt hj]
  rw [cell, block, Vec.at_map_range _ _ _ (raster_lt hi hj), h1, h2]

/-- Row `r` of the row pass. -/
theorem rowPass_getD {N r : Nat} (rowK : Vec → Vec) (X : Vec) (hr : r < N) :
    (rowPass N rowK X).getD r [] = rowK ((List.range N).map (fun c => cell N X r c)) := by
  simp [rowPass, hr]

/-- Entry `[i][c]` of the separable transform: lane `i` of the column kernel on column `c` of the row results. -/
theorem cell_separable {N i c : Nat} (rowK colK : Vec → Vec) (X : Vec) (hi : i < N) (hc : c < N) :
    cell N (separable N rowK colK X) i c =
      (colK ((List.range N).map (fun r => ((rowPass N rowK X).getD r []).at c))).at i := by
  rw [separable, cell_block _ hi hc]
  simp [colPass, hc]

/-- A flipped index stays in the block. -/
theorem flipIndex_lt {flip : Bool} {N i : Nat} (h : i < N) : flipIndex flip N i < N := by
  unfold flipIndex
  split <;> omega

/-- Every residual has one entry for each cell of the block. -/
@[simp] theorem reconResidual_length (t : TxType) (sz : TxSize) (n : Nat) (X : Vec) :
    (reconResidual t sz n X).length = sz.area := by
  cases t <;> simp [reconResidual, generalResidual, idtxResidual, TxSize.area]

@[simp] theorem whtResidual_length (n : Nat) (X : Vec) : (whtResidual n X).length = 16 := by
  simp [whtResidual, separable]

/-- The cells a RECON writes are those of its destination block. -/
@[simp] theorem sampleWrites_fst (sz : TxSize) (bd : BitDepth) (x : ReconInput) (res : Vec) :
    (sampleWrites sz bd x res).map Prod.fst = destAddrs x.block sz.side := by
  simp [sampleWrites, destAddrs, TxSize.area, Function.comp_def]

@[simp] theorem drawWrites_fst (sz : TxSize) (bd : BitDepth) (b : DestBlock) (count : Nat) :
    (drawWrites sz bd b count).map Prod.fst = destAddrs b sz.side := by
  simp [drawWrites, destAddrs, TxSize.area, Function.comp_def]

/-- Every address of a block is one of its cells. -/
theorem mem_destAddrs {b : DestBlock} {n a : Nat} :
    a ∈ destAddrs b n ↔ ∃ k < n * n, a = destAddr b (k / n) (k % n) := by
  simp [destAddrs, eq_comm]

end Sys2Proof.Machine
end

