-- ==== Sys2Proof/Laws/Ready.lean ====
section
/-!
SUPPORT. The operand reads of a KERN1D and of a RECON under the predicates claims are stated in (`DepthOk`,
`BlockReady`): the checks pass, and the values read are `laneInt`, `coefInt` and `predInt`.
-/

namespace Sys2Proof.Machine

/-- A supported bit depth passes the BDSEL check. -/
theorem checkBitDepth_of_depthOk {p : Params} {bdsel : BitVec 2} {bd : BitDepth} (h : DepthOk p bdsel bd) :
    checkBitDepth p bdsel = .ok bd := by
  refine checkBitDepth_ok.2 ⟨?_, h.1⟩
  obtain ⟨h1, h2⟩ := h
  revert h1 h2
  rcases bit2_cases bdsel with rfl | rfl | rfl | rfl <;> cases bd <;> simp [bdselOk, BitDepth.ofField]

/-- A type that exists passes the TXTYPE check. -/
theorem checkTxType_of_typeOk {p : Params} {t : TxType} (h : TypeOk p t) : checkTxType p t = .ok () := by
  refine checkTxType_ok.2 ?_
  cases ht : t.extended
  · simp
  · simp [h ht]

/-- Reading cells that are all written gives their values. -/
theorem Memory.readAll_of_written {w : Nat} {m : Memory w} {as : List Nat} (h : ∀ a ∈ as, m.read a ≠ none) :
    m.readAll as = some (as.map (fun a => (m.read a).getD 0#w)) := by
  obtain ⟨vs, hvs⟩ := Option.isSome_iff_exists.1 (Memory.readAll_isSome.2 h)
  have hm := congrArg (List.map (fun o => Option.getD o 0#w)) (Memory.readAll_eq_some.1 hvs)
  rw [hvs]
  simpa [Function.comp_def] using hm.symm

/-- The wrapped lanes of a kernel's input. -/
theorem wrapWords_lanes (s : State) (n size : Nat) :
    wrapWords n ((List.range size).map (fun a => (s.vin.read a).getD 0#32)) =
      (List.range size).map (laneInt s n) := by
  rw [wrapWords, List.map_map]
  rfl

/-- The wrapped coefficients of a block. -/
theorem wrapWords_coefs (s : State) (n size : Nat) :
    wrapWords n ((List.range size).map (fun a => (s.coef.read a).getD 0#32)) =
      (List.range size).map (coefInt s n) := by
  rw [wrapWords, List.map_map]
  rfl

/-- The operands of a RECON whose block is ready. -/
def readyInput (s : State) (sz : TxSize) (base stride : Word) : ReconInput where
  block := ⟨base.toNat, stride.toNat⟩
  coefs := (List.range sz.area).map (fun a => (s.coef.read a).getD 0#32)
  preds := (destAddrs ⟨base.toNat, stride.toNat⟩ sz.side).map (fun a => (s.pix.read a).getD 0#16)

/-- A ready block passes checks (4) to (7). -/
theorem reconInput_of_ready {s : State} {sz : TxSize} {base stride : Word} (h : BlockReady s sz base stride) :
    reconInput sz s = .ok (readyInput s sz base stride) := by
  refine reconInput_ok.2 ⟨checkDest_ok.2 ⟨base, stride, h.dstBase, h.dstStride, rfl, h.wide, h.inPix⟩, ?_, ?_⟩
  · exact Memory.readAll_of_written (fun a ha => h.coefs a (List.mem_range.1 ha))
  · refine Memory.readAll_of_written (fun a ha => ?_)
    obtain ⟨k, hk, rfl⟩ := mem_destAddrs.1 ha
    have hN : 0 < sz.side := by cases sz <;> decide
    exact h.preds _ (Nat.div_lt_of_lt_mul hk) _ (Nat.mod_lt _ hN)

/-- The k-th prediction sample of a ready block, in raster order. -/
theorem readyInput_pred {s : State} {sz : TxSize} {base stride : Word} (bd : BitDepth) {k : Nat} (hk : k < sz.area) :
    predValue bd ((readyInput s sz base stride).preds.getD k 0#16) =
      predInt s bd (blockAddr base stride (k / sz.side) (k % sz.side)) := by
  have hk' : k < sz.side * sz.side := hk
  simp [readyInput, destAddrs, hk', predInt, blockAddr, destAddr]

/-- The premise of 42_dispatch R211, computed on the operands of a ready block. -/
theorem zonePremise_ready {s : State} {sz : TxSize} {n z : Nat} :
    zonePremise sz.side z ((List.range sz.area).map (coefInt s n)) = true ↔ ZeroOutside s sz n z := by
  have hN : 0 < sz.side := by cases sz <;> decide
  have hcell : ∀ r c, r < sz.side → c < sz.side →
      cell sz.side ((List.range sz.area).map (coefInt s n)) r c = coefInt s n (r * sz.side + c) :=
    fun r c hr hc => Vec.at_map_range _ _ _ (raster_lt hr hc)
  simp only [zonePremise, List.all_eq_true, List.mem_range, Bool.or_eq_true, Bool.and_eq_true, decide_eq_true_eq,
    beq_iff_eq, ZeroOutside]
  constructor
  · intro h r hr c hc hz
    have h1 : (r * sz.side + c) / sz.side = r := by
      rw [Nat.mul_comm, Nat.mul_add_div hN, Nat.div_eq_of_lt hc, Nat.add_zero]
    have h2 : (r * sz.side + c) % sz.side = c := by rw [Nat.mul_comm, Nat.mul_add_mod, Nat.mod_eq_of_lt hc]
    have := h (r * sz.side + c) (raster_lt hr hc)
    rw [h1, h2, hcell r c hr hc] at this
    exact this.resolve_left hz
  · intro h k hk
    have hr : k / sz.side < sz.side := Nat.div_lt_of_lt_mul hk
    have hc : k % sz.side < sz.side := Nat.mod_lt _ hN
    by_cases hz : k / sz.side < z ∧ k % sz.side < z
    · exact .inl hz
    · rw [hcell _ _ hr hc]
      exact .inr (h _ hr _ hc hz)

/-- What a RECON.<TxType> with legal fields and a ready block does: its write-back. -/
theorem exec_recon_ready {s : State} {t : TxType} {sz : TxSize} {bdsel : BitVec 2} {bd : BitDepth} {eob : BitVec 11}
    {base stride : Word} (ht : TypeOk s.params t) (hb : DepthOk s.params bdsel bd) (he : eob.toNat ≤ sz.area)
    (h : BlockReady s sz base stride) :
    exec (t.instr sz bdsel eob) s = .next (writeBack sz bd (readyInput s sz base stride)
      (eobPremise t sz eob.toNat ((List.range sz.area).map (coefInt s (wrapBits s.params bd))))
      (reconResidual t sz (wrapBits s.params bd) ((List.range sz.area).map (coefInt s (wrapBits s.params bd)))) s) := by
  have hx : wrapWords (wrapBits s.params bd) (readyInput s sz base stride).coefs =
      (List.range sz.area).map (coefInt s (wrapBits s.params bd)) := wrapWords_coefs _ _ _
  rw [exec_recon, runRecon_ok.2 ⟨bd, _, checkTxType_of_typeOk ht, checkBitDepth_of_depthOk hb,
    checkEob_ok.2 (decide_eq_true he), reconInput_of_ready h, rfl⟩, hx]
  rfl

/-- What RECON.WHT with legal fields and a ready block does: its write-back. -/
theorem exec_wht_ready {s : State} {bdsel : BitVec 2} {bd : BitDepth} {eob : BitVec 11} {base stride : Word}
    (hb : DepthOk s.params bdsel bd) (he : eob.toNat ≤ 16) (h : BlockReady s .s4 base stride) :
    exec (.reconWht bdsel eob) s = .next (writeBack .s4 bd (readyInput s .s4 base stride)
      (zonePremise 4 (whtZone eob.toNat) ((List.range TxSize.s4.area).map (coefInt s (wrapBits s.params bd))))
      (whtResidual (wrapBits s.params bd) ((List.range TxSize.s4.area).map (coefInt s (wrapBits s.params bd)))) s) := by
  have hx : wrapWords (wrapBits s.params bd) (readyInput s .s4 base stride).coefs =
      (List.range TxSize.s4.area).map (coefInt s (wrapBits s.params bd)) := wrapWords_coefs _ _ _
  have hr : exec (.reconWht bdsel eob) s = conclude (.reconWht bdsel eob) s (runWht bdsel eob s) := rfl
  rw [hr, runWht_ok.2 ⟨bd, _, checkBitDepth_of_depthOk hb,
    checkEob_ok.2 (decide_eq_true he), reconInput_of_ready h, rfl⟩, hx]
  rfl

end Sys2Proof.Machine
end

