-- ==== Sys2Proof/Laws/ScanRom.lean ====
section
/-!
SUPPORT. The SCAN_ROM of the state after reset is one the spec allows (43_scan_context R261, R262), whatever the open
tables are.
-/

namespace Sys2Proof

/-- A corner-first scan is a permutation. -/
theorem ScanTable.cornerFirst_perm (n side : Nat) : (ScanTable.cornerFirst n side).Perm (List.range (n * n)) :=
  List.filter_append_perm _ _

/-- The corner-first SCAN_ROM satisfies R262. -/
theorem ScanRom.cornerFirst_ok : ScanRomOk ScanRom.cornerFirst where
  d4 := rfl
  r4 := rfl
  c4 := rfl
  tables id := by
    cases id
    case d4 => exact ⟨by decide +kernel, rfl, by decide +kernel, trivial⟩
    case r4 => exact ⟨by decide +kernel, rfl, by decide +kernel, trivial⟩
    case c4 => exact ⟨by decide +kernel, rfl, by decide +kernel, trivial⟩
    case d8 =>
      refine ⟨ScanTable.cornerFirst_perm 8 4, by decide +kernel, by decide +kernel, ?_⟩
      show ∀ rc ∈ (ScanTable.cornerFirst 8 4).take 12, rc / 8 < 4 ∧ rc % 8 < 4
      decide +kernel
    case r8 => exact ⟨ScanTable.cornerFirst_perm 8 4, by decide +kernel, by decide +kernel, trivial⟩
    case c8 => exact ⟨ScanTable.cornerFirst_perm 8 4, by decide +kernel, by decide +kernel, trivial⟩
    case d16 =>
      refine ⟨ScanTable.cornerFirst_perm 16 4, by decide +kernel, by decide +kernel, ?_⟩
      show ∀ rc ∈ (ScanTable.cornerFirst 16 4).take 10, rc / 16 < 4 ∧ rc % 16 < 4
      decide +kernel
    case r16 => exact ⟨ScanTable.cornerFirst_perm 16 4, by decide +kernel, by decide +kernel, trivial⟩
    case c16 => exact ⟨ScanTable.cornerFirst_perm 16 4, by decide +kernel, by decide +kernel, trivial⟩
    case d32 =>
      refine ⟨ScanTable.cornerFirst_perm 32 8, by decide +kernel, by decide +kernel, ?_⟩
      show ∀ rc ∈ (ScanTable.cornerFirst 32 8).take 34, rc / 32 < 8 ∧ rc % 32 < 8
      decide +kernel

/-- Whatever the open tables are, the SCAN_ROM after reset satisfies R261 and R262. -/
theorem Config.scanRom_ok : ScanRomOk Config.scanRom := by
  have h : ScanRomOk Config.chosenRom := by
    unfold Config.chosenRom
    split
    · exact ValidRom.ok _
    · exact ScanRom.cornerFirst_ok
  refine ⟨rfl, rfl, rfl, fun id => ?_⟩
  cases id
  case d4 => exact ScanRom.cornerFirst_ok.tables .d4
  case r4 => exact ScanRom.cornerFirst_ok.tables .r4
  case c4 => exact ScanRom.cornerFirst_ok.tables .c4
  all_goals exact h.tables _

end Sys2Proof
end

