-- ==== Sys2Proof/Tests/Slice0.lean ====
section
/-!
SUPPORT. The model's own tests: ill-formed terms, decoding by hand-written words, the spec's worked examples (one step on a
small state each), and for every statement with hypotheses a witness that meets them.
-/

namespace Sys2Proof.Tests

set_option Elab.async false

open Sys2Proof Sys2Proof.Machine

/-! ## Small states -/

/-- The 4x4 coefficients of every example of 42_dispatch section 3. -/
def exampleCoefs : List Int := [64, 32, 0, 0, -16, 0, 0, 0, 0, 0, 0, 0, 0, 0, 0, 0]

/-- A 4x4 block at DST_BASE 0 with DST_STRIDE 4 and one prediction value. -/
def block4 (coefs : List Int) (pred : Nat) : State :=
  { State.reset with
    dstBase := some 0#32, dstStride := some 4#32,
    coef := (List.range coefs.length).map (fun k => (k, BitVec.ofInt 32 (coefs.getD k 0))),
    pix := (List.range 16).map (fun k => (k, BitVec.ofNat 16 pred)) }

/-- An engine whose first lanes of VIN are written. -/
def lanes (xs : List Int) : State :=
  { State.reset with vin := (List.range xs.length).map (fun k => (k, BitVec.ofInt 32 (xs.getD k 0))) }

/-- An engine after INIT, with corner-first scans above 4x4 and some tokens. -/
def afterInit (tok : Memory 3) : State :=
  { State.reset with
    scanRom := ScanRom.cornerFirst, tables := some (buildTables ScanRom.cornerFirst), tok := tok }

/-- A block of any size, every operand written. -/
def ready (sz : TxSize) (c : Nat → Word) : State :=
  { State.reset with
    dstBase := some 0#32, dstStride := some (BitVec.ofNat 32 sz.side),
    coef := (List.range sz.area).map (fun k => (k, c k)),
    pix := (List.range sz.area).map (fun k => (k, 128#16)) }

/-- The engine with one pending host access. -/
def pending (s : State) (x : HostAccess) : State := { s with host := [x] }

/-- The command word `w` run as the host's next access, then a view of the next state. -/
def run {α : Type} (w : Nat) (s : State) (view : State → α) : Option α :=
  match step (s.withFetchWord 32 w) with
  | .next t => some (view t)
  | .fault _ => none
  | .refused _ => none

/-- PIX as numbers. -/
def pixels (s : State) : List Nat := s.pix.map (fun c => c.2.toNat)

/-- VOUT as integers. -/
def outputs (s : State) : List Int := s.vout.map (fun c => c.2.toInt)

/-- RES0 to RES3. -/
def results (s : State) : List (Option Word) := [s.res0, s.res1, s.res2, s.res3]

/-- A cell of a memory given by a range. -/
theorem read_map_range {w : Nat} (n k : Nat) (f : Nat → BitVec w) (h : k < n) :
    Memory.read ((List.range n).map (fun k => (k, f k))) k = some (f k) := by
  refine Memory.read_of_mem (c := (k, f k)) ?_ (List.mem_map.2 ⟨k, List.mem_range.2 h, rfl⟩)
  exact List.pairwise_map.2 List.pairwise_lt_range

/-- A ready block of every size: the premise of every RECON statement can be met. -/
theorem witness_BlockReady (sz : TxSize) (c : Nat → Word) :
    BlockReady (ready sz c) sz 0#32 (BitVec.ofNat 32 sz.side) := by
  have hs : (BitVec.ofNat 32 sz.side).toNat = sz.side := by cases sz <;> rfl
  refine ⟨rfl, rfl, Nat.le_of_eq hs.symm, ?_, fun k hk => ?_, fun i hi j hj => ?_⟩
  · show blockAddr 0#32 (BitVec.ofNat 32 sz.side) (sz.side - 1) (sz.side - 1) < 4096
    cases sz <;> decide
  · rw [ready, read_map_range _ _ _ hk]
    exact Option.some_ne_none _
  · have ha : blockAddr 0#32 (BitVec.ofNat 32 sz.side) i j = i * sz.side + j := by simp [blockAddr, hs]
    have hk : i * sz.side + j < sz.area := raster_lt hi hj
    rw [ha, ready, read_map_range sz.area (i * sz.side + j) (fun _ => 128#16) hk]
    exact Option.some_ne_none _

/-- The tables of `afterInit` are as the spec says. -/
theorem witness_TablesOk (tok : Memory 3) : TablesOk (afterInit tok) :=
  ⟨ScanRom.cornerFirst_ok, fun t h => by cases h; rfl⟩

/-! ## Ill-formed terms (30_encoding R115) -/

/-- An engine without the extended types and without high bit depth. -/
def baseline : Params := { Config.params with extTx := false, hbd := false }

theorem test_ill_bdsel_reserved : Instr.WellFormed Config.params (.reconDctDct .s4 3#2 0#11) = false := by decide

theorem test_ill_bdsel_without_hbd : Instr.WellFormed baseline (.kernIdct4 1#2) = false := by decide

theorem test_ill_eob_above_area : Instr.WellFormed Config.params (.reconWht 0#2 17#11) = false := by decide

theorem test_ill_eob_above_area_32 : Instr.WellFormed Config.params (.reconDctDct .s32 0#2 1025#11) = false := by decide

theorem test_ill_type_without_ext : Instr.WellFormed baseline (.reconFlipadstDct .s4 0#2 0#11) = false := by decide

theorem test_ill_kind_reserved : Instr.WellFormed Config.params (.scanlookup .s4 3#2 0#11) = false := by decide

theorem test_ill_kind_row_at_32 : Instr.WellFormed Config.params (.ctx .s32 1#2 0#11) = false := by decide

theorem test_ill_pos_at_area : Instr.WellFormed Config.params (.scanlookup .s4 0#2 16#11) = false := by decide

theorem test_ill_lossless_above_4x4 : Instr.WellFormed Config.params (.getscan .s8 false true true 0#4) = false := by decide

theorem test_ill_mode_reserved_intra : Instr.WellFormed Config.params (.getscan .s4 false false false 10#4) = false := by decide

/-- The same checks at the edge of what is legal. -/
theorem test_wellformed_edges :
    [Instr.reconDctDct .s4 2#2 16#11, .reconHFlipadst .s32 2#2 1024#11, .reconWht 1#2 16#11, .kernIwht4 2#2,
      .scanlookup .s4 2#2 15#11, .ctx .s32 0#2 1023#11, .getscan .s4 true false true 9#4,
      .getscan .s32 false true false 15#4].all (Instr.WellFormed Config.params) = true := by decide

/-! ## Decoding words written out from the encodings (30_encoding R102, R103, R110 to R112)

F_RECON is `00000000 EOB(11) BDSEL(2) L TXTYPE(4) TXSZ(2) 0001`. -/

theorem test_decode_recon_low :
    [0b00000000_00000000101_01_0_0000_00_0001#32,
      0b00000000_00000000101_01_0_0001_01_0001#32,
      0b00000000_00000000101_01_0_0010_10_0001#32,
      0b00000000_00000000101_01_0_0011_11_0001#32,
      0b00000000_00000000101_01_0_0100_00_0001#32,
      0b00000000_00000000101_01_0_0101_01_0001#32,
      0b00000000_00000000101_01_0_0110_10_0001#32,
      0b00000000_00000000101_01_0_0111_11_0001#32].map (decode Config.params) =
    [.ok (.reconDctDct .s4 1#2 5#11),
      .ok (.reconAdstDct .s8 1#2 5#11),
      .ok (.reconDctAdst .s16 1#2 5#11),
      .ok (.reconAdstAdst .s32 1#2 5#11),
      .ok (.reconFlipadstDct .s4 1#2 5#11),
      .ok (.reconDctFlipadst .s8 1#2 5#11),
      .ok (.reconFlipadstFlipadst .s16 1#2 5#11),
      .ok (.reconAdstFlipadst .s32 1#2 5#11)] := by decide +kernel

theorem test_decode_recon_high :
    [0b00000000_00000000101_01_0_1000_00_0001#32,
      0b00000000_00000000101_01_0_1001_01_0001#32,
      0b00000000_00000000101_01_0_1010_10_0001#32,
      0b00000000_00000000101_01_0_1011_11_0001#32,
      0b00000000_00000000101_01_0_1100_00_0001#32,
      0b00000000_00000000101_01_0_1101_01_0001#32,
      0b00000000_00000000101_01_0_1110_10_0001#32,
      0b00000000_00000000101_01_0_1111_11_0001#32].map (decode Config.params) =
    [.ok (.reconFlipadstAdst .s4 1#2 5#11),
      .ok (.reconIdtx .s8 1#2 5#11),
      .ok (.reconVDct .s16 1#2 5#11),
      .ok (.reconHDct .s32 1#2 5#11),
      .ok (.reconVAdst .s4 1#2 5#11),
      .ok (.reconHAdst .s8 1#2 5#11),
      .ok (.reconVFlipadst .s16 1#2 5#11),
      .ok (.reconHFlipadst .s32 1#2 5#11)] := by decide +kernel

theorem test_decode_recon_wht :
    decode Config.params 0b00000000_00000010000_10_1_0000_00_0001#32 = .ok (.reconWht 2#2 16#11) := by decide +kernel

/-- F_KERN is `0(19) BDSEL(2) 00 KID(5) 0010`. -/
theorem test_decode_kern :
    [0b0000000000000000000_00_00_00000_0010#32,
      0b0000000000000000000_01_00_00001_0010#32,
      0b0000000000000000000_10_00_00010_0010#32,
      0b0000000000000000000_00_00_00011_0010#32,
      0b0000000000000000000_01_00_00100_0010#32,
      0b0000000000000000000_10_00_00101_0010#32,
      0b0000000000000000000_00_00_00110_0010#32,
      0b0000000000000000000_01_00_00111_0010#32,
      0b0000000000000000000_10_00_01000_0010#32,
      0b0000000000000000000_00_00_01001_0010#32,
      0b0000000000000000000_01_00_01010_0010#32,
      0b0000000000000000000_10_00_01011_0010#32,
      0b0000000000000000000_00_00_01100_0010#32].map (decode Config.params) =
    [.ok (.kernIdct4 0#2),
      .ok (.kernIdct8 1#2),
      .ok (.kernIdct16 2#2),
      .ok (.kernIdct32 0#2),
      .ok (.kernIadst4 1#2),
      .ok (.kernIadst8 2#2),
      .ok (.kernIadst16 0#2),
      .ok (.kernIhalfright32 1#2),
      .ok (.kernIidtx4 2#2),
      .ok (.kernIidtx8 0#2),
      .ok (.kernIidtx16 1#2),
      .ok (.kernIidtx32 2#2),
      .ok (.kernIwht4 0#2)] := by decide +kernel

/-- F_NONE, F_GETSCAN `0(19) MODE(4) L I P TXSZ(2) 0100` and F_SCANPOS `0(13) POS(11) KIND(2) TXSZ(2) OPC(4)`. -/
theorem test_decode_scan :
    [0b0000000000000000000000000000_0011#32, 0b0000000000000000000_1001_1_0_1_00_0100#32,
      0b0000000000000000000_0011_0_1_0_10_0100#32, 0b0000000000000_00000000011_01_00_0101#32,
      0b0000000000000_01000000001_10_10_0110#32].map (decode Config.params) =
    [.ok .init, .ok (.getscan .s4 true false true 9#4), .ok (.getscan .s16 false true false 3#4),
      .ok (.scanlookup .s4 1#2 3#11), .ok (.ctx .s16 2#2 513#11)] := by decide +kernel

/-- Words that decode to nothing, with the cause (95_test_vectors section 2.1). -/
theorem test_decode_refused :
    [0x00000000#32, 0x0000000F#32, 0x01002001#32, 0x80000003#32, 0x00000202#32, 0x00002004#32, 0x00080005#32,
      0x00000441#32, 0x00000411#32, 0x000000D2#32].map (decode Config.params) =
    [.error .illegalCommand, .error .illegalCommand, .error .illegalCommand, .error .illegalCommand,
      .error .illegalCommand, .error .illegalCommand, .error .illegalCommand, .error .losslessIllegal,
      .error .losslessIllegal, .error .badKernel] := by decide +kernel

theorem test_decode_type_without_ext : decode baseline 0x00000101#32 = .error .badTxType := by decide +kernel

theorem test_table_word : decodeTableWord 32 0x00000003 = some .init := by decide +kernel

/-- R266: the default map, mode by mode. -/
theorem test_intra_map :
    (List.range 10).map (fun m => (IntraMode.ofField (BitVec.ofNat 4 m)).map IntraScanMap.standard.kind) =
      [some .default, some .col, some .row, some .default, some .default, some .col, some .row, some .row, some .col,
        some .default] := by decide

/-! ## The examples of 42_dispatch R226 and R230 to R245 -/

theorem test_recon_dct_dct : run 0x00020001 (block4 exampleCoefs 128) pixels =
    some [131, 130, 129, 128, 131, 130, 129, 128, 132, 131, 130, 129, 132, 131, 130, 129] := by decide +kernel

theorem test_recon_adst_dct : run 0x00020041 (block4 exampleCoefs 128) pixels =
    some [129, 129, 128, 128, 130, 130, 129, 128, 132, 131, 130, 129, 133, 132, 131, 129] := by decide +kernel

theorem test_recon_dct_adst : run 0x00020081 (block4 exampleCoefs 128) pixels =
    some [130, 130, 130, 129, 130, 131, 130, 129, 130, 131, 131, 130, 130, 131, 131, 130] := by decide +kernel

theorem test_recon_adst_adst : run 0x000200C1 (block4 exampleCoefs 128) pixels =
    some [129, 129, 128, 128, 130, 130, 129, 129, 130, 131, 131, 130, 131, 132, 132, 131] := by decide +kernel

theorem test_recon_flipadst_dct : run 0x00020101 (block4 exampleCoefs 128) pixels =
    some [133, 132, 131, 129, 132, 131, 130, 129, 130, 130, 129, 128, 129, 129, 128, 128] := by decide +kernel

theorem test_recon_dct_flipadst : run 0x00020141 (block4 exampleCoefs 128) pixels =
    some [129, 130, 130, 130, 129, 130, 131, 130, 130, 131, 131, 130, 130, 131, 131, 130] := by decide +kernel

theorem test_recon_flipadst_flipadst : run 0x00020181 (block4 exampleCoefs 128) pixels =
    some [131, 132, 132, 131, 130, 131, 131, 130, 129, 129, 130, 130, 128, 128, 129, 129] := by decide +kernel

theorem test_recon_adst_flipadst : run 0x000201C1 (block4 exampleCoefs 128) pixels =
    some [128, 128, 129, 129, 129, 129, 130, 130, 130, 131, 131, 130, 131, 132, 132, 131] := by decide +kernel

theorem test_recon_flipadst_adst : run 0x00020201 (block4 exampleCoefs 128) pixels =
    some [131, 132, 132, 131, 130, 131, 131, 130, 130, 130, 129, 129, 129, 129, 128, 128] := by decide +kernel

theorem test_recon_idtx : run 0x00020241 (block4 exampleCoefs 128) pixels =
    some [136, 132, 128, 128, 126, 128, 128, 128, 128, 128, 128, 128, 128, 128, 128, 128] := by decide +kernel

theorem test_recon_v_dct : run 0x00020281 (block4 exampleCoefs 128) pixels =
    some [131, 130, 128, 128, 131, 130, 128, 128, 133, 130, 128, 128, 133, 130, 128, 128] := by decide +kernel

theorem test_recon_h_dct : run 0x000202C1 (block4 exampleCoefs 128) pixels =
    some [135, 133, 131, 129, 127, 127, 127, 127, 128, 128, 128, 128, 128, 128, 128, 128] := by decide +kernel

theorem test_recon_v_adst : run 0x00020301 (block4 exampleCoefs 128) pixels =
    some [129, 129, 128, 128, 130, 130, 128, 128, 133, 130, 128, 128, 134, 131, 128, 128] := by decide +kernel

theorem test_recon_h_adst : run 0x00020341 (block4 exampleCoefs 128) pixels =
    some [132, 134, 133, 131, 128, 127, 127, 127, 128, 128, 128, 128, 128, 128, 128, 128] := by decide +kernel

theorem test_recon_v_flipadst : run 0x00020381 (block4 exampleCoefs 128) pixels =
    some [134, 131, 128, 128, 133, 130, 128, 128, 130, 130, 128, 128, 129, 129, 128, 128] := by decide +kernel

theorem test_recon_h_flipadst : run 0x000203C1 (block4 exampleCoefs 128) pixels =
    some [131, 133, 134, 132, 127, 127, 127, 128, 128, 128, 128, 128, 128, 128, 128, 128] := by decide +kernel

theorem test_recon_wht : run 0x00020401 (block4 exampleCoefs 128) pixels =
    some [133, 133, 129, 129, 133, 133, 129, 129, 135, 135, 131, 131, 135, 135, 131, 131] := by decide +kernel

/-! ## Corner cases of RECON (95_test_vectors section 2.5) -/

theorem test_clip_low : run 0x00002001 (block4 (-4000 :: List.replicate 15 0) 10) (fun t => pixels t) =
    some (List.replicate 16 0) := by decide +kernel

theorem test_clip_high_bd10 : run 0x00002801 (block4 (1000 :: List.replicate 15 0) 1000) pixels =
    some (List.replicate 16 1023) := by decide +kernel

theorem test_bd8_reads_low_byte : run 0x00002001 (block4 (64 :: List.replicate 15 0) 0x1F0) pixels =
    some (List.replicate 16 242) := by decide +kernel

theorem test_bd10_reads_all : run 0x00002801 (block4 (64 :: List.replicate 15 0) 0x1F0) pixels =
    some (List.replicate 16 498) := by decide +kernel

theorem test_coef_wraps_bd8 : run 0x00002001 (block4 (40000 :: List.replicate 15 0) 208) pixels =
    some (List.replicate 16 0) := by decide +kernel

theorem test_idtx_floor : run 0x00020241 (block4 (7 :: List.replicate 15 0) 128) pixels =
    some (List.replicate 16 128) := by decide +kernel

theorem test_coef_consumed : run 0x00002001 (block4 (64 :: List.replicate 15 0) 128) (fun t => t.coef) = some [] := by
  decide +kernel

/-- A broken premise draws: the pixels are the free values, whatever they are. -/
theorem test_broken_premise : run 0x00002001 (block4 (64 :: 1 :: List.replicate 14 0) 77) (fun t => (t.drawCount, t.coef)) =
    some (16, []) := by decide +kernel

/-- The faults of RECON: no destination, a stride below N, a block past PIX, no COEF[15]. -/
theorem test_recon_faults :
    [block4 [] 128, { block4 exampleCoefs 128 with dstStride := none },
      { block4 exampleCoefs 128 with dstStride := some 3#32 }, { block4 exampleCoefs 128 with dstBase := some 4081#32 }].map
        (fun s => run 0x00002001 s (fun t => (statusWord t, t.faultCmd))) =
    [some (0x0B01#32, 0x00002001#32), some (0x0B01#32, 0x00002001#32), some (0x0D01#32, 0x00002001#32),
      some (0x0D01#32, 0x00002001#32)] := by decide +kernel

/-! ## The examples of 41_kernels R146 to R158 -/

theorem test_kern_idct4 : run 0x00000002 (lanes [100, 50, -30, 7]) outputs =
    some ([98, 105, 79, 0]) := by decide +kernel

theorem test_kern_idct4_wraps : run 0x00000002 (lanes [32767, 32767, 0, 0]) outputs =
    some ([-12094, -29827, 10629, -7104]) := by decide +kernel

theorem test_kern_idct8 : run 0x00000012 (lanes [100, 50, -30, 7, 0, 1, 2, 3]) outputs =
    some ([100, 96, 108, 102, 94, 60, 20, -12]) := by decide +kernel

theorem test_kern_idct16 : run 0x00000022 (lanes [-8, -7, -6, -5, -4, -3, -2, -1, 0, 1, 2, 3, 4, 5, 6, 7]) outputs =
    some ([-24, -40, 9, -16, 5, -10, 3, -7, 3, -5, 0, -5, 0, -3, -2, -4]) := by decide +kernel

theorem test_kern_idct32 : run 0x00000032 (lanes [-16, -15, -14, -13, -12, -11, -10, -9, -8, -7, -6, -5, -4, -3, -2, -1, 0, 1, 2, 3, 4, 5, 6, 7, 8, 9, 10, 11, 12, 13, 14, 15]) outputs =
    some ([-91, -157, 43, -57, 25, -35, 20, -25, 15, -21, 10, -18, 8, -12, 6, -10, 4, -10, 4, -10, 4, -8, 1, -9, -1, -4, -3, -7, -1, -7, -3, -3]) := by decide +kernel

theorem test_kern_iadst4 : run 0x00000042 (lanes [100, 50, -30, 7]) outputs =
    some ([49, 105, 112, 32]) := by decide +kernel

theorem test_kern_iadst8 : run 0x00000052 (lanes [100, 50, -30, 7, 0, 1, 2, 3]) outputs =
    some ([20, 40, 77, 109, 129, 114, 65, 20]) := by decide +kernel

theorem test_kern_iadst16 : run 0x00000062 (lanes [-8, -7, -6, -5, -4, -3, -2, -1, 0, 1, 2, 3, 4, 5, 6, 7]) outputs =
    some ([18, -41, -14, -15, -8, -9, -6, -7, -7, -5, -5, -6, -5, -5, -4, -4]) := by decide +kernel

theorem test_kern_ihalfright32 : run 0x00000072 (lanes (64 :: List.replicate 31 0)) outputs =
    some (List.replicate 16 0 ++ List.replicate 16 64) := by decide +kernel

theorem test_kern_iidtx4 : run 0x00000082 (lanes [64, -64, 1, -1]) outputs =
    some ([91, -91, 1, -1]) := by decide +kernel

theorem test_kern_iidtx8 : run 0x00000092 (lanes [64, -64, 1, -1, 16384, -16385, 0, 3]) outputs =
    some ([128, -128, 2, -2, -32768, 32766, 0, 6]) := by decide +kernel

theorem test_kern_iidtx16 : run 0x000000A2 (lanes ([64, -64, 1, -1, 100] ++ List.replicate 11 0)) outputs =
    some ([181, -181, 3, -3, 283] ++ List.replicate 11 0) := by decide +kernel

theorem test_kern_iidtx32 : run 0x000000B2 (lanes ([1, -1, 8192, -8193] ++ List.replicate 28 0)) outputs =
    some ([4, -4, -32768, 32764] ++ List.replicate 28 0) := by decide +kernel

theorem test_kern_iwht4 : run 0x000000C2 (lanes [1, 2, 3, 4]) outputs =
    some ([5, -2, 0, -1]) := by decide +kernel

theorem test_kern_reduces_lane : run 0x00000082 (lanes [0x00010005, 0, 0, 0]) outputs = some [7, 0, 0, 0] := by
  decide +kernel

theorem test_kern_unwritten : run 0x00000012 (lanes [1, 2, 3, 4]) (fun t => (statusWord t, t.faultCmd, t.vout)) =
    some (0x0B01#32, 0x00000012#32, []) := by decide +kernel

/-! ## Scan commands (95_test_vectors section 2.6) -/

theorem test_init : run 0x00000003 State.reset statusWord = some 0x00000002#32 := by decide +kernel

theorem test_scan_before_init :
    [0x00000305, 0x00000404, 0x000000C5].map (fun w => run w State.reset statusWord) =
      [some 0x0601#32, some 0x0601#32, some 0x0801#32] := by decide +kernel

theorem test_getscan :
    [0x00000404, 0x00000484, 0x00000224, 0x00000434, 0x00000444, 0x00000504].map
        (fun w => run w (afterInit []) (fun t => t.scanSel)) =
      [some (some 0x4#4), some (some 0x0#4), some (some 0xA#4), some (some 0x3#4), some (some 0x0#4),
        some (some 0x0#4)] := by decide +kernel

theorem test_getscan_mode_checked_though_unused : run 0x00001874 (afterInit []) statusWord = some 0x0A03#32 := by
  decide +kernel

theorem test_scanlookup :
    [0x00000005, 0x00000305, 0x00000345, 0x00000785].map (fun w => run w (afterInit []) results) =
      [some [some 0#32, some 0#32, some 0xFFFFFFFF#32, some 0xFFFFFFFF#32],
        some [some 5#32, some 8#32, some 2#32, some 1#32],
        some [some 2#32, some 5#32, some 1#32, some 0xFFFFFFFF#32],
        some [some 2#32, some 12#32, some 3#32, some 0xFFFFFFFF#32]] := by decide +kernel

theorem test_ctx :
    [run 0x00000006 (afterInit []) (fun t => t.ctxOut), run 0x00000306 (afterInit [(1, 2#3), (2, 3#3)]) (fun t => t.ctxOut),
      run 0x00000106 (afterInit [(0, 4#3)]) (fun t => t.ctxOut),
      run 0x00000846 (afterInit [(7, 2#3)]) (fun t => t.ctxOut)] =
      [some (some 0#3), some (some 3#3), some (some 4#3), some (some 2#3)] := by decide +kernel

theorem test_ctx_faults :
    [run 0x00000306 (afterInit [(2, 6#3)]) statusWord, run 0x00000306 (afterInit [(1, 0#3), (2, 6#3)]) statusWord] =
      [some 0x0B03#32, some 0x0C03#32] := by decide +kernel

/-! ## Witnesses: encoding (what each statement assumes can be met, clause by clause) -/

theorem witness_DecodeOfEncode :
    TypeOk Config.params .hFlipadst ∧ TypeOk baseline .adstAdst ∧ ¬ TypeOk baseline .flipadstDct := by decide

theorem witness_EncodeOfDecode : decode Config.params 0x0007FFF6#32 = .ok (.ctx .s32 3#2 2047#11) := by decide +kernel

theorem witness_OneTableRow :
    Config.params.extTx = true ∧ (∃ r ∈ opTable, r.matches 0x000003C1#32 = true) ∧
      decode Config.params 0x000003C1#32 = .ok (.reconHFlipadst .s4 0#2 0#11) := by decide +kernel

theorem witness_ReservedWordsFault :
    State.reset.fault = none ∧ field 0xFFFFFFF0#32 0 4 = 0#4 ∧ 7 ≤ (field 0x00000007#32 0 4).toNat ∧
      7 ≤ (field 0xFFFFFFFF#32 0 4).toNat ∧
      (field 0x01000001#32 0 4 = 1#4 ∧ field 0x01000001#32 24 8 ≠ 0#8) ∧
      (field 0x00002002#32 0 4 = 2#4 ∧ field 0x00002002#32 13 19 ≠ 0#19) ∧
      (field 0x00000402#32 0 4 = 2#4 ∧ field 0x00000402#32 9 2 ≠ 0#2) ∧
      (field 0x00000013#32 0 4 = 3#4 ∧ field 0x00000013#32 4 28 ≠ 0#28) ∧
      (field 0x00002004#32 0 4 = 4#4 ∧ field 0x00002004#32 13 19 ≠ 0#19) ∧
      (field 0x00080005#32 0 4 = 5#4 ∧ field 0x00080005#32 19 13 ≠ 0#13) ∧
      (field 0x80000006#32 0 4 = 6#4 ∧ field 0x80000006#32 19 13 ≠ 0#13) := ⟨rfl, by decide +kernel⟩

/-- The same engine without the extended types and without high bit depth. -/
def baselineState : State := { State.reset with params := baseline }

theorem witness_UnnamedWordsFault :
    (baselineState.fault = none ∧ baselineState.params.extTx = false ∧ field 0x00000101#32 0 4 = 1#4 ∧
      field 0x00000101#32 24 8 = 0#8 ∧ 4 ≤ (field 0x00000101#32 6 4).toNat) ∧
    (State.reset.fault = none ∧ State.reset.params.extTx = true ∧ field 0x000007C1#32 0 4 = 1#4 ∧
      field 0x000007C1#32 24 8 = 0#8 ∧ field 0x000007C1#32 10 1 = 1#1 ∧ field 0x000007C1#32 6 4 ≠ 0#4) ∧
    (field 0x00000411#32 0 4 = 1#4 ∧ field 0x00000411#32 24 8 = 0#8 ∧ (field 0x00000411#32 6 4).toNat < 4 ∧
      field 0x00000411#32 10 1 = 1#1 ∧ field 0x00000411#32 4 2 ≠ 0#2) ∧
    (field 0x000000D2#32 0 4 = 2#4 ∧ field 0x000000D2#32 13 19 = 0#19 ∧ field 0x000000D2#32 9 2 = 0#2 ∧
      13 ≤ (field 0x000000D2#32 4 5).toNat) ∧
    (field 0x000001F2#32 0 4 = 2#4 ∧ field 0x000001F2#32 13 19 = 0#19 ∧ field 0x000001F2#32 9 2 = 0#2 ∧
      13 ≤ (field 0x000001F2#32 4 5).toNat) := ⟨⟨rfl, rfl, by decide +kernel⟩, ⟨rfl, rfl, by decide +kernel⟩, by decide +kernel⟩

/-! ## Witnesses: steps, faults and reset -/

/-- A faulted engine. -/
def faulted : State := { State.reset with fault := some .eobRange, faultCmd := 0x00003001#32 }

theorem witness_StepRunsDecodedCommand :
    ((pending State.reset (.write 0x0000 3#32)).fault = none ∧
      (pending State.reset (.write 0x0000 3#32)).host = .write 0x0000 3#32 :: [] ∧
      decode State.reset.params 3#32 = .ok .init) ∧
    decode State.reset.params 0xF#32 = .error .illegalCommand := ⟨⟨rfl, rfl, by decide +kernel⟩, by decide +kernel⟩

theorem witness_FaultedEngineIgnoresCommands :
    faulted.fault ≠ none ∧ (pending faulted (.write 0x0000 3#32)).host = .write 0x0000 3#32 :: [] ∧
      (pending faulted (.write 0x23FF 3#32)).host = .write 0x23FF 3#32 :: [] ∧
      (pending faulted (.read 0x0001)).host = .read 0x0001 :: [] := ⟨by decide, rfl, rfl, rfl⟩

/-- A word that does not decode, and a command that fails a state check. -/
theorem witness_FaultsArePrecise :
    State.reset.fault = none ∧ (∃ t, runWord 0xF#32 State.reset = .next t ∧ t.fault ≠ none) ∧
      ∃ t, runWord 0x00000305#32 State.reset = .next t ∧ t.fault ≠ none :=
  ⟨rfl, ⟨_, rfl, by decide +kernel⟩, ⟨_, rfl, by decide +kernel⟩⟩

theorem witness_NoCommandStops :
    step (pending State.reset (.pixRead 4096)) = .fault (.pixOutOfRange 4096) ∧
      step (pending State.reset (.pixWrite 4096 1#16)) = .fault (.pixOutOfRange 4096) := ⟨rfl, rfl⟩

theorem witness_OnlyResetClearsFault :
    (faulted.fault = some .eobRange ∧
      (∃ t, step (pending faulted (.write 0x0000 3#32)) = .next t) ∧
      (pending faulted (.write 0x0000 3#32)).host.head? ≠ some .reset) ∧
    (pending faulted .reset).host = .reset :: [] := ⟨⟨rfl, ⟨_, rfl⟩, by decide⟩, rfl⟩

theorem witness_ResetValues :
    (platformReset faulted).pix = faulted.pix ∧ statusWord (platformReset faulted) = 0#32 := ⟨rfl, by decide +kernel⟩

theorem witness_StatusLayout :
    State.reset.fault = none ∧ ∀ c, State.fault { State.reset with fault := some c } = some c := ⟨rfl, fun _ => rfl⟩

theorem witness_IllFormedCommandsFault :
    State.reset.fault = none ∧ Instr.WellFormed State.reset.params (.reconWht 3#2 16#11) = false ∧
      Instr.WellFormed State.reset.params (.ctx .s32 0#2 1024#11) = false := ⟨rfl, by decide +kernel⟩

/-! ## Witnesses: the machine as a whole -/

/-- A state past reset with the invariant: tables built, a token and a sample written, SCAN_SEL and CTX_OUT set. -/
def running : State :=
  { afterInit [(0, 4#3), (1023, 7#3)] with
    scanSel := some (scanSelWord .col .s16), ctxOut := some 5#3, pix := [(4095, 255#16)],
    host := [.write 0x0000 0x00000106#32] }

theorem witness_StepKeepsInvariant : Inv running ∧ ∃ t, step running = .next t := by
  refine ⟨⟨?_, ?_, ?_⟩, _, rfl⟩
  · constructor <;> simp [running, afterInit, State.reset, State.afterReset, Memory.below, Config.params]
  · refine ⟨fun _ => rfl, fun v hv => ⟨.s16, .col, ?_, by decide⟩, fun v hv => ?_⟩
    · cases hv; rfl
    · cases hv; decide
  · exact ⟨ScanRom.cornerFirst_ok, fun t h => by cases h; rfl⟩

/-- The largest PIX the spec allows is a parameter set, with its last cell written in a state with the invariant. -/
def largestPix : State :=
  { running with
    params := { Config.params with pixSize := 2 ^ 32, pixSize_le := Nat.le_refl _ },
    pix := [(2 ^ 32 - 1, 1#16)] }

theorem witness_ParametersFixed :
    (∃ t, step largestPix = .next t) ∧ Inv largestPix ∧ largestPix.pix.read (2 ^ 32 - 1) ≠ none := by
  have h := witness_StepKeepsInvariant.1
  refine ⟨⟨_, rfl⟩, ⟨⟨h.memories.vinWf, h.memories.voutWf, h.memories.coefWf, h.memories.tokWf, ?_, h.memories.vinBelow,
    h.memories.voutBelow, h.memories.coefBelow, h.memories.tokBelow, ?_⟩,
    ⟨h.registers.faultCmd, h.registers.scanSel, h.registers.ctxOut⟩, ⟨h.tables.rom, h.tables.built⟩⟩, by decide⟩
  · simp [largestPix]
  · simp [largestPix, Memory.below]

theorem witness_CommandsLeaveOperands : ∃ t, exec .init State.reset = .next t := ⟨_, rfl⟩

theorem witness_ResultOwners :
    (∃ t, exec (.getscan .s4 false false false 1#4) (afterInit []) = .next t ∧ t.scanSel ≠ (afterInit []).scanSel) ∧
    (∃ t, exec (.ctx .s4 0#2 0#11) (afterInit []) = .next t ∧ t.ctxOut ≠ (afterInit []).ctxOut) ∧
    (∃ t, exec (.scanlookup .s4 0#2 15#11) (afterInit []) = .next t ∧ t.res0 ≠ (afterInit []).res0) ∧
    (∃ t, exec (.kernIdct4 0#2) (lanes [1, 2, 3, 4]) = .next t ∧ t.vout ≠ (lanes [1, 2, 3, 4]).vout) ∧
    (∃ t, exec .init State.reset = .next t ∧ t.tables ≠ State.reset.tables) ∧
    ∃ t, exec (.reconDctDct .s4 0#2 16#11) (block4 exampleCoefs 128) = .next t ∧
      t.coef ≠ (block4 exampleCoefs 128).coef :=
  ⟨⟨_, rfl, by decide +kernel⟩, ⟨_, rfl, by decide +kernel⟩, ⟨_, rfl, by decide +kernel⟩, ⟨_, rfl, by decide +kernel⟩,
    ⟨_, rfl, by simp [State.reset, State.afterReset]⟩, ⟨_, rfl, by decide +kernel⟩⟩

theorem witness_PixWriters :
    (∃ t, step (pending State.reset (.pixWrite 4095 1#16)) = .next t ∧
      t.pix ≠ (pending State.reset (.pixWrite 4095 1#16)).pix) ∧
    ∃ t, step ((block4 exampleCoefs 128).withFetchWord 32 0x00020001) = .next t ∧
      t.pix ≠ ((block4 exampleCoefs 128).withFetchWord 32 0x00020001).pix :=
  ⟨⟨_, rfl, by decide +kernel⟩, ⟨_, rfl, by decide +kernel⟩⟩

theorem witness_TablesConstant :
    (running.tables = some (buildTables ScanRom.cornerFirst) ∧ (∃ t, step running = .next t) ∧
      running.host.head? ≠ some .reset) ∧
    ((afterInit [(0, 4#3)]).tables = running.tables ∧ (afterInit [(0, 4#3)]).scanRom = running.scanRom ∧
      (∃ t, exec (.scanlookup .s4 0#2 15#11) (afterInit [(0, 4#3)]) = .next t) ∧
      (∃ t, exec (.scanlookup .s4 0#2 15#11) running = .next t) ∧
      (afterInit [(0, 4#3)]).fault = none ∧ running.fault = none) ∧
    ((afterInit running.tok).tok = running.tok ∧ (∃ t, exec (.ctx .s4 0#2 1#11) (afterInit running.tok) = .next t) ∧
      ∃ t, exec (.ctx .s4 0#2 1#11) running = .next t) :=
  ⟨⟨rfl, ⟨_, rfl⟩, by decide⟩, ⟨rfl, rfl, ⟨_, rfl⟩, ⟨_, rfl⟩, rfl, rfl⟩, rfl, ⟨_, rfl⟩, ⟨_, rfl⟩⟩

/-! ## Witnesses: the host interface -/

theorem witness_IdleHoldsState : State.reset.host = [] ∧ faulted.host = [] := ⟨rfl, rfl⟩

theorem witness_HostReads :
    (pending running (.read 0x13FF)).host = .read 0x13FF :: [] ∧
      ReservedAddr 0x0007 ∧ ReservedAddr 0x000C ∧ ReservedAddr 0x00FF ∧ ReservedAddr 0x0140 ∧ ReservedAddr 0x0FFF ∧
      ReservedAddr 0x1400 ∧ ReservedAddr 0x1FFF ∧ ReservedAddr 0x2400 := ⟨rfl, by decide⟩

/-- The host writes at the edges of every range of addresses, and what they store. -/
theorem witness_HostWrites :
    (∀ a v, (pending running (.write a v)).host = .write a v :: []) ∧
      (0x011F = 0x0100 + 31 ∧ 0x13FF = 0x1000 + 1023 ∧ 0x23FF = 0x2000 + 1023) ∧
      (∃ t, step (pending State.reset (.write 0x011F 7#32)) = .next t ∧ t.vin = [(31, 7#32)]) ∧
      (∃ t, step (pending State.reset (.write 0x13FF 7#32)) = .next t ∧ t.coef = [(1023, 7#32)]) ∧
      (∃ t, step (pending State.reset (.write 0x2000 0xFD#32)) = .next t ∧ t.tok = [(0, 5#3)]) ∧
      (∃ t, step (pending State.reset (.write 0x0120 7#32)) = .next t ∧ t.vout = []) :=
  ⟨fun _ _ => rfl, by decide, ⟨_, rfl, by decide +kernel⟩, ⟨_, rfl, by decide +kernel⟩, ⟨_, rfl, by decide +kernel⟩,
    ⟨_, rfl, by decide +kernel⟩⟩

theorem witness_HostPixAccesses :
    (∀ x, (pending running x).host = x :: []) ∧ 4095 < running.params.pixSize ∧ running.params.pixSize ≤ 4096 ∧
      (∃ t, step (pending running (.pixRead 4095)) = .next t ∧ t.readData = some 255#32) ∧
      (∃ t, step (pending running (.pixRead 0)) = .next t ∧ t.readData = none) :=
  ⟨fun _ => rfl, by decide, by decide, ⟨_, rfl, by decide +kernel⟩, ⟨_, rfl, by decide +kernel⟩⟩

/-! ## Witnesses: arithmetic and kernels -/

theorem witness_RoundingShift : 1 ≤ 1 ∧ RPT (-3) 1 = -1 ∧ RPT (3 * 2 ^ 14 + 2 ^ 13) 14 = 4 := by decide

theorem witness_WrapReduces :
    0 < 1 ∧ W 16 32768 = -32768 ∧ W 16 (-32769) = 32767 ∧ Config.params.hbdWrap = .fixed32 ∧
      { Config.params with hbdWrap := .bdPlus8 }.hbdWrap = .bdPlus8 := by decide

theorem witness_KernelCommandRuns :
    DepthOk Config.params 2#2 .d12 ∧ DepthOk baseline 0#2 .d8 ∧
      ∀ j < KernelId.idct32.size, (lanes (List.replicate 32 (-1))).vin.read j ≠ none := by decide +kernel

theorem witness_KernelCommandTraps :
    State.reset.fault = none ∧ ((3#2 : BitVec 2) = 3#2) ∧ ((1#2 : BitVec 2) ≠ 0#2 ∧ baselineState.params.hbd = false) ∧
      DepthOk State.reset.params 0#2 .d8 ∧
      ∃ j < KernelId.iwht4.size, (lanes [1, 2, 3]).vin.read j = none := ⟨rfl, by decide +kernel⟩

theorem witness_IdentityKernels :
    DepthOk Config.params 1#2 .d10 ∧ (∀ j < 4, (lanes [1, 2, 3, 4]).vin.read j ≠ none) ∧
      ∀ j < 32, (lanes (List.replicate 32 1)).vin.read j ≠ none := by decide +kernel

theorem witness_HalfRightComposition : (List.replicate 32 (-7) : Vec).length = 32 := by decide

theorem witness_EvenHalves : 3 < 4 ∧ 7 < 8 ∧ 15 < 16 := by decide

theorem witness_KernelOutputsInRange : 0 < 1 ∧ (-37 : Int) ∈ kernel .iidtx4 16 [-26, 0, 0, 0] := by decide +kernel

/-! ## Witnesses: reconstruction -/

/-- An 8x8 block with one coefficient inside the zone of its partial path, at its corner. -/
def inZone8 : State := ready .s8 (fun k => if k = 27 then 64#32 else 0#32)

/-- An 8x8 block with one coefficient outside that zone. -/
def outOfZone8 : State := ready .s8 (fun k => if k = 28 then 64#32 else 0#32)

theorem witness_BlockAddressesDistinct : TxSize.s32.side ≤ (32#32).toNat ∧ 31 < TxSize.s32.side := by decide

theorem witness_ReconCompletes :
    (TypeOk Config.params .hFlipadst ∧ DepthOk Config.params 2#2 .d12 ∧ (1024#11).toNat ≤ TxSize.s32.area ∧
      BlockReady (ready .s32 (fun _ => 1#32)) .s32 0#32 32#32) ∧
    ((16#11).toNat ≤ TxSize.s4.area ∧ BlockReady (ready .s4 (fun _ => 1#32)) .s4 0#32 4#32) :=
  ⟨⟨by decide, by decide, by decide, witness_BlockReady .s32 _⟩, by decide, witness_BlockReady .s4 _⟩

theorem witness_ReconWritesTransform :
    (TxType.dctDct ≠ .idtx ∧ TypeOk inZone8.params .dctDct ∧ DepthOk inZone8.params 0#2 .d8 ∧
      (12#11).toNat ≤ TxSize.s8.area ∧ BlockReady inZone8 .s8 0#32 8#32 ∧
      ZeroOutside inZone8 .s8 (wrapBits inZone8.params .d8) (dctZone .s8 (12#11).toNat)) ∧
    ZeroOutside outOfZone8 .s8 (wrapBits outOfZone8.params .d8) (dctZone .s8 (13#11).toNat) := by
  refine ⟨⟨by decide, by decide, by decide, by decide, witness_BlockReady .s8 _, ?_⟩, ?_⟩ <;>
    · unfold ZeroOutside
      decide +kernel

theorem witness_ReconIdtxWrites :
    (ready .s4 (fun _ => 7#32)).params.extTx = true ∧ DepthOk Config.params 0#2 .d8 ∧ (0#11).toNat ≤ TxSize.s4.area ∧
      BlockReady (ready .s4 (fun _ => 7#32)) .s4 0#32 4#32 ∧ BlockReady (ready .s32 (fun _ => 7#32)) .s32 0#32 32#32 :=
  ⟨rfl, by decide, by decide, witness_BlockReady .s4 _, witness_BlockReady .s32 _⟩

theorem witness_ReconWhtWrites :
    DepthOk Config.params 0#2 .d8 ∧ (1#11).toNat ≤ 16 ∧
      BlockReady (ready .s4 (fun k => if k = 0 then 9#32 else 0#32)) .s4 0#32 4#32 ∧
      ZeroOutside (ready .s4 (fun k => if k = 0 then 9#32 else 0#32)) .s4 16 (whtZone (1#11).toNat) := by
  refine ⟨by decide, by decide, witness_BlockReady .s4 _, ?_⟩
  unfold ZeroOutside
  decide +kernel

theorem witness_BrokenPremiseDraws :
    (DepthOk Config.params 0#2 .d8 ∧ (12#11).toNat ≤ TxSize.s8.area ∧ BlockReady outOfZone8 .s8 0#32 8#32 ∧
      ¬ ZeroOutside outOfZone8 .s8 (wrapBits outOfZone8.params .d8) (dctZone .s8 (12#11).toNat)) ∧
    ((1#11).toNat ≤ TxSize.s4.area ∧ BlockReady (ready .s4 (fun _ => 7#32)) .s4 0#32 4#32 ∧
      ¬ ZeroOutside (ready .s4 (fun _ => 7#32)) .s4 16 (whtZone (1#11).toNat)) := by
  refine ⟨⟨by decide, by decide, witness_BlockReady .s8 _, ?_⟩, by decide, witness_BlockReady .s4 _, ?_⟩ <;>
    · unfold ZeroOutside
      decide +kernel

/-- What the statement assumes of the operands, in the order of the checks. -/
theorem witness_ReconTraps :
    (baselineState.fault = none ∧ ¬ TypeOk baselineState.params .idtx) ∧
    (TypeOk baselineState.params .adstAdst ∧ (2#2 : BitVec 2) ≠ 0#2 ∧ baselineState.params.hbd = false) ∧
    (State.reset.fault = none ∧ DepthOk State.reset.params 0#2 .d8 ∧ TxSize.s4.area < (17#11).toNat) ∧
    ((16#11).toNat ≤ TxSize.s4.area ∧ State.reset.dstBase = none ∧
      { block4 exampleCoefs 128 with dstStride := none }.dstStride = none) ∧
    ((block4 exampleCoefs 128).dstBase = some 0#32 ∧ (block4 exampleCoefs 128).dstStride = some 4#32 ∧
      (3#32).toNat < TxSize.s4.side ∧ State.reset.params.pixSize ≤ blockAddr 4081#32 4#32 3 3 ∧
      blockAddr 4080#32 4#32 3 3 < State.reset.params.pixSize) ∧
    (TxSize.s4.side ≤ (4#32).toNat ∧ (∃ k < TxSize.s4.area, (block4 (List.replicate 15 1) 128).coef.read k = none) ∧
      (block4 exampleCoefs 128).pix.read (blockAddr 4080#32 4#32 0 0) = none) :=
  ⟨⟨rfl, by decide +kernel⟩, by decide +kernel, ⟨rfl, by decide +kernel⟩, ⟨by decide, rfl, rfl⟩,
    ⟨rfl, rfl, by decide +kernel⟩, by decide +kernel⟩

theorem witness_EobOnlyRangeChecked :
    TxType.hFlipadst ≠ .dctDct ∧ TypeOk outOfZone8.params .hFlipadst ∧ DepthOk outOfZone8.params 0#2 .d8 ∧
      (0#11).toNat ≤ TxSize.s8.area ∧ (64#11).toNat ≤ TxSize.s8.area ∧ BlockReady outOfZone8 .s8 0#32 8#32 :=
  ⟨by decide, by decide, by decide, by decide, by decide, witness_BlockReady .s8 _⟩

theorem witness_BlockIsConsumed :
    outOfZone8.fault = none ∧ TypeOk outOfZone8.params .dctDct ∧ DepthOk outOfZone8.params 0#2 .d8 ∧
      (64#11).toNat ≤ TxSize.s8.area ∧ BlockReady outOfZone8 .s8 0#32 8#32 ∧ TxSize.s4.side ≤ (8#32).toNat ∧
      blockAddr 0#32 8#32 (TxSize.s4.side - 1) (TxSize.s4.side - 1) < outOfZone8.params.pixSize ∧
      ∃ u, exec (TxType.dctDct.instr .s8 0#2 64#11) outOfZone8 = .next u :=
  ⟨rfl, by decide, by decide, by decide, witness_BlockReady .s8 _, by decide, by decide,
    ⟨_, exec_recon_ready (t := .dctDct) (by decide) (bd := .d8) (by decide) (by decide) (witness_BlockReady .s8 _)⟩⟩

theorem witness_FlipSymmetry : 31 < TxSize.s32.side ∧ 0 < TxSize.s32.side := by decide

theorem witness_PartialPathIsFull :
    ∀ r < TxSize.s8.side, ∀ c < TxSize.s8.side, ¬(r < 4 ∧ c < 4) →
      cell TxSize.s8.side ((List.range 64).map (fun k => if k = 27 then 5 else 0)) r c = 0 := by decide +kernel

theorem witness_LosslessReachesEveryResidual :
    ([255, -255, 0, 255, -255, 255, -255, 255, 255, 255, -255, -255, 1, 0, 0, 255] : Vec).length = 16 ∧
      ∀ v ∈ ([255, -255, 0, 255, -255, 255, -255, 255, 255, 255, -255, -255, 1, 0, 0, 255] : Vec), -255 ≤ v ∧ v ≤ 255 := by
  decide

/-! ## Witnesses: scans and contexts -/

theorem witness_InitBuildsTables :
    State.reset.tables = none ∧ (afterInit []).tables ≠ none ∧ ∃ t, exec .init State.reset = .next t :=
  ⟨rfl, by simp [afterInit], _, rfl⟩

/-- A scan of each size the spec allows, and positions of every form of neighbour in the 4x4 one. -/
theorem witness_BuildFollowsTheRule :
    (∀ id, ScanTable.Ok id (ScanRom.cornerFirst.get id)) ∧ 16 = ScanId.d4.size.side * ScanId.d4.size.side ∧
      [1, 2, 3, 15].map (fun n => (ScanTable.default4.getD n 0 / 4, ScanTable.default4.getD n 0 % 4)) =
        [(1, 0), (0, 1), (1, 1), (3, 3)] := ⟨ScanRom.cornerFirst_ok.tables, by decide, by decide⟩

theorem witness_NeighboursAreEarlier :
    ScanTable.Ok .d32 (ScanRom.cornerFirst.get .d32) ∧ 0 < 1023 ∧ 1023 < ScanId.d32.size.area :=
  ⟨ScanRom.cornerFirst_ok.tables .d32, by decide, by decide⟩

theorem witness_GetscanSelects :
    (afterInit []).tables ≠ none ∧ (true = true → TxSize.s4 = .s4) ∧ (9#4).toNat < 10 ∧
      ((false : Bool) = false ∧ TxSize.s16 ≠ .s32) := ⟨by simp [afterInit], by decide⟩

theorem witness_GetscanTraps :
    State.reset.fault = none ∧ State.reset.tables = none ∧ (true = true ∧ TxSize.s8 ≠ .s4) ∧
      (10 ≤ (10#4).toNat ∧ 10 ≤ (15#4).toNat) ∧ ((false = true → TxSize.s32 = .s4) ∧ (9#4).toNat < 10) :=
  ⟨rfl, rfl, by decide⟩

theorem witness_ScanposTraps :
    State.reset.fault = none ∧ State.reset.tables = none ∧ ((2#2 : BitVec 2) ≠ 0#2 ∧ TxSize.s32 = .s32) ∧
      ((2#2 : BitVec 2) ≠ 3#2 ∧ TxSize.s16 ≠ .s32 ∧ TxSize.s16.area ≤ (256#11).toNat ∧ (255#11).toNat < TxSize.s16.area) :=
  ⟨rfl, rfl, by decide⟩

theorem witness_ScanlookupReads :
    TablesOk (afterInit []) ∧ (afterInit []).tables = some (buildTables ScanRom.cornerFirst) ∧
      ScanKind.ofField 0#2 = some ScanId.d32.kind ∧ (1023#11).toNat < ScanId.d32.size.area :=
  ⟨witness_TablesOk _, rfl, by decide, by decide⟩

/-- Position 15 has two neighbours in the default 4x4 scan and one in the row scan; the tokens are the largest class. -/
theorem witness_ContextComputes :
    (afterInit [(13, 5#3), (14, 5#3)]).tables = some (buildTables ScanRom.cornerFirst) ∧
      ScanKind.ofField 0#2 = some ScanId.d4.kind ∧ (15#11).toNat < ScanId.d4.size.area ∧ 15#11 ≠ 0#11 ∧
      ((buildTables ScanRom.cornerFirst).get .d4).nbr[15]? = some (some 14, some 13) ∧
      ((buildTables ScanRom.cornerFirst).get .r4).nbr[15]? = some (some 14, none) ∧
      (afterInit [(13, 5#3), (14, 5#3)]).tok.read 14 = some 5#3 ∧
      (afterInit [(13, 5#3), (14, 5#3)]).tok.read 13 = some 5#3 ∧ (5#3).toNat ≤ 5 := ⟨rfl, by decide +kernel⟩

theorem witness_ContextTraps :
    (afterInit [(14, 6#3)]).fault = none ∧
      ((buildTables ScanRom.cornerFirst).get .d4).nbr[15]? = some (some 14, some 13) ∧
      (afterInit [(14, 6#3)]).tok.read 13 = none ∧
      (afterInit [(13, 0#3), (14, 6#3)]).tok.read 13 ≠ none ∧
      (afterInit [(13, 0#3), (14, 6#3)]).tok.read 14 = some 6#3 ∧ 6 ≤ (6#3).toNat := ⟨rfl, by decide +kernel⟩

/-- Two token memories that agree below position 3, with every class written there. -/
theorem witness_ContextIsCausal :
    TablesOk (afterInit [(0, 0#3), (1, 5#3), (2, 5#3)]) ∧
      (∀ m < (3#11).toNat, (afterInit [(0, 0#3), (1, 5#3), (2, 5#3)]).tok.read m =
        Memory.read [(0, 0#3), (1, 5#3), (2, 5#3), (3, 7#3)] m) ∧
      (∃ t, exec (.ctx .s4 0#2 3#11) (afterInit [(0, 0#3), (1, 5#3), (2, 5#3)]) = .next t) ∧
      ∀ m < (3#11).toNat, (afterInit [(0, 0#3), (1, 5#3), (2, 5#3)]).tok.read m =
        some (if m = 0 then 0#3 else 5#3) ∧ (5#3).toNat ≤ 5 :=
  ⟨witness_TablesOk _, by decide +kernel, ⟨_, rfl⟩, by decide +kernel⟩

end Sys2Proof.Tests
end

section
/-!
PROOFS. The scope rules (00_scope R9, R12, R14): the rounding shift, the wrap, and the parameters and SCAN_ROM, which every
step keeps. What a step can do is said once, in `step_cases`, `writeCmd_cases` and `exec_cases`.
-/

namespace Sys2Proof.Machine

/-! ## The rounding shift and the wrap -/

/-- `RPT` is the floor division its definition names. -/
theorem RPT_eq_ediv (x : Int) (n : Nat) : RPT x n = (x + 2 ^ (n - 1)) / 2 ^ n := rfl

/-- Two halves of `2^n` are `2^n`. -/
theorem two_pow_half_add_half {n : Nat} (h : 1 ≤ n) : (2 ^ (n - 1) + 2 ^ (n - 1) : Int) = 2 ^ n := by
  rw [← two_mul, mul_pow_sub_one (by omega)]

/-- A value exactly half way between `q` and `q + 1` in units of `2^n` goes up, whatever the sign of `q` (R12). -/
theorem RPT_half (q : Int) {n : Nat} (h : 1 ≤ n) : RPT (q * 2 ^ n + 2 ^ (n - 1)) n = q + 1 := by
  have hsum : q * 2 ^ n + 2 ^ (n - 1) + 2 ^ (n - 1) = (q + 1) * 2 ^ n := by
    rw [add_assoc, two_pow_half_add_half h, add_mul, one_mul]
  rw [RPT_eq_ediv, hsum, Int.mul_ediv_cancel _ (by positivity)]

/-- Settles O26: `RPT` is a floor division, and at an exact half its numerator is a multiple of `2^n`. -/
theorem roundingShift : Obligations.RoundingShift :=
  ⟨fun _ _ _ => ⟨Int.ediv_mul_le _ (by positivity), Int.lt_ediv_add_one_mul_self _ (by positivity)⟩,
    fun q _ h => RPT_half q h, by decide, by decide⟩

/-- The wrap changes a value by a multiple of `2^n` (R14). -/
theorem two_pow_dvd_W_sub (n : Nat) (x : Int) : (2 ^ n : Int) ∣ W n x - x := by
  have h := Int.dvd_bmod_sub_self (x := x) (m := 2 ^ n)
  rwa [Nat.cast_pow, Nat.cast_ofNat] at h

/-- The wrap width at bit depth 8 is 16 on every engine (R14). -/
@[simp] theorem wrapBits_d8 (p : Params) : wrapBits p .d8 = 16 := rfl

/-- The wrap width at 10 and 12 bits on an engine with HBD_WRAP_BITS = 32 (R14). -/
theorem wrapBits_of_fixed32 {p : Params} (h : p.hbdWrap = .fixed32) {bd : BitDepth} (hbd : bd ≠ .d8) :
    wrapBits p bd = 32 := by
  cases bd with
  | d8 => exact absurd rfl hbd
  | d10 | d12 => simp [wrapBits, h]

/-- The wrap width at 10 and 12 bits on an engine with HBD_WRAP_BITS = bd + 8 (R14). -/
theorem wrapBits_of_bdPlus8 {p : Params} (h : p.hbdWrap = .bdPlus8) {bd : BitDepth} (hbd : bd ≠ .d8) :
    wrapBits p bd = bd.bits + 8 := by
  cases bd with
  | d8 => exact absurd rfl hbd
  | d10 | d12 => simp [wrapBits, h]

/-- Settles O27: the balanced remainder modulo `2^n` has the range of `W_lower` and `W_upper` and differs from its
argument by a multiple of `2^n`. -/
theorem wrapReduces : Obligations.WrapReduces :=
  ⟨fun n x hn => ⟨W_lower hn x, W_upper hn x, Int.emod_eq_zero_of_dvd (two_pow_dvd_W_sub n x)⟩,
    wrapBits_d8,
    fun _ h => ⟨wrapBits_of_fixed32 h (by decide), wrapBits_of_fixed32 h (by decide)⟩,
    fun _ h => ⟨wrapBits_of_bdPlus8 h (by decide), wrapBits_of_bdPlus8 h (by decide)⟩⟩

/-! ## What a step can do -/

/-- A host write to CMD that completes was ignored on a faulted engine (R303), or ran the decoded command, or took the
exception of the decode check the word fails. -/
theorem writeCmd_cases {w : Word} {s t : State} (h : writeCmd w s = .next t) :
    (s.fault ≠ none ∧ t = s) ∨
      (s.fault = none ∧ ∃ i, decode s.params w = .ok i ∧ exec i s = .next t) ∨
      (s.fault = none ∧ ∃ c, decode s.params w = .error c ∧ t = raise c w s) := by
  unfold writeCmd at h
  cases hf : s.fault with
  | some c =>
    rw [hf] at h
    cases h
    exact .inl ⟨nofun, rfl⟩
  | none =>
    rw [hf] at h
    rcases runWord_cases w s with ⟨i, hd, hr⟩ | ⟨c, hd, hr⟩
    · exact .inr (.inl ⟨rfl, i, hd, hr.symm.trans h⟩)
    · cases hr.symm.trans h
      exact .inr (.inr ⟨rfl, c, hd, rfl⟩)

/-- An access to a PIX cell completes exactly when the cell exists. -/
theorem onPixCell_next {a : Nat} {s t u : State} : onPixCell a s t = .next u ↔ a < s.params.pixSize ∧ u = t := by
  unfold onPixCell
  split <;> simp [*, eq_comm]

/-- What one access of the host does when it completes, on the state in which it is no longer pending. -/
inductive HostEffect (s : State) : HostAccess → State → Prop where
  /-- A write to CMD (`writeCmd_cases` says what it does). -/
  | command (w : Word) (t : State) (h : writeCmd w s = .next t) : HostEffect s (.write 0 w) t
  /-- A write to another register address. -/
  | store (addr : Nat) (w : Word) (h : addr ≠ 0) : HostEffect s (.write addr w) (hostStore s addr w)
  /-- A register read. -/
  | read (addr : Nat) : HostEffect s (.read addr) { s with readData := hostRead s addr }
  /-- A write of a PIX cell that exists. -/
  | pixWrite (a : Nat) (v : Sample) (h : a < s.params.pixSize) :
    HostEffect s (.pixWrite a v) { s with pix := s.pix.write a v }
  /-- A read of a PIX cell that exists. -/
  | pixRead (a : Nat) (h : a < s.params.pixSize) :
    HostEffect s (.pixRead a) { s with readData := (s.pix.read a).map (fun v => v.setWidth 32) }
  /-- The platform's reset. -/
  | reset : HostEffect s .reset (platformReset s)
  /-- A draw into a PIX cell that exists. -/
  | sharedDraw (a : Nat) (bd : BitDepth) (h : a < s.params.pixSize) :
    HostEffect s (.sharedDraw a bd)
      { s with pix := s.pix.write a (drawSample bd s.drawCount), drawCount := s.drawCount + 1 }

/-- An access of the host that completes has the effect of its own kind. -/
theorem hostAccess_effect {x : HostAccess} {s t : State} (h : hostAccess x s = .next t) : HostEffect s x t := by
  cases x with
  | write addr w =>
    by_cases ha : addr = 0
    · subst ha
      exact .command w t h
    · cases (hostWrite_other ha w s).symm.trans h
      exact .store addr w ha
  | read addr => cases h; exact .read addr
  | reset => cases h; exact .reset
  | pixWrite a v =>
    obtain ⟨ha, rfl⟩ := onPixCell_next.1 h
    exact .pixWrite a v ha
  | pixRead a =>
    obtain ⟨ha, rfl⟩ := onPixCell_next.1 h
    exact .pixRead a ha
  | sharedDraw a bd =>
    obtain ⟨ha, rfl⟩ := onPixCell_next.1 h
    exact .sharedDraw a bd ha

/-- What a step can do: nothing on an idle engine, or the effect of the host's next access. -/
theorem step_cases {s t : State} (h : step s = .next t) :
    (s.host = [] ∧ t = s) ∨ ∃ x rest, s.host = x :: rest ∧ HostEffect { s with host := rest } x t := by
  unfold step hostStep at h
  split at h
  · next hs => cases h; exact .inl ⟨hs, rfl⟩
  · next x rest hs => exact .inr ⟨x, rest, hs, hostAccess_effect h⟩

/-! ## The parameters and SCAN_ROM are kept -/

/-- No family's effect reaches the parameters or SCAN_ROM. -/
theorem Effect.keeps_params_scanRom {s t : State} {i : Instr} (h : Effect s i t) :
    t.params = s.params ∧ t.scanRom = s.scanRom := by
  cases h <;> exact ⟨rfl, rfl⟩

/-- No command changes the parameters or SCAN_ROM, whether it completes or takes ContractViolation. -/
theorem exec_keeps_params_scanRom {i : Instr} {s t : State} (h : exec i s = .next t) :
    t.params = s.params ∧ t.scanRom = s.scanRom := by
  rcases exec_cases i s with ⟨u, hu, he⟩ | ⟨c, hc⟩
  · cases hu.symm.trans h
    exact he.keeps_params_scanRom
  · cases hc.symm.trans h
    exact ⟨raise_params .., raise_scanRom ..⟩

/-- No write to CMD changes the parameters or SCAN_ROM. -/
theorem writeCmd_keeps_params_scanRom {w : Word} {s t : State} (h : writeCmd w s = .next t) :
    t.params = s.params ∧ t.scanRom = s.scanRom := by
  rcases writeCmd_cases h with ⟨-, rfl⟩ | ⟨-, i, -, he⟩ | ⟨-, c, -, rfl⟩
  · exact ⟨rfl, rfl⟩
  · exact exec_keeps_params_scanRom he
  · exact ⟨raise_params .., raise_scanRom ..⟩

/-- No access of the host, reset included, changes the parameters or SCAN_ROM. -/
theorem HostEffect.keeps_params_scanRom {s t : State} {x : HostAccess} (h : HostEffect s x t) :
    t.params = s.params ∧ t.scanRom = s.scanRom := by
  cases h with
  | command w t h => exact writeCmd_keeps_params_scanRom h
  | store addr w => exact ⟨hostStore_params .., hostStore_scanRom ..⟩
  | reset => exact ⟨platformReset_params s, platformReset_scanRom s⟩
  | read | pixWrite | pixRead | sharedDraw => exact ⟨rfl, rfl⟩

/-- No step changes the parameters or SCAN_ROM (R9). -/
theorem step_keeps_params_scanRom {s t : State} (h : step s = .next t) : t.params = s.params ∧ t.scanRom = s.scanRom := by
  rcases step_cases h with ⟨-, rfl⟩ | ⟨x, rest, -, he⟩
  · exact ⟨rfl, rfl⟩
  · exact he.keeps_params_scanRom

/-- A written cell of a memory whose cells lie below a bound has an address below it. -/
theorem Memory.lt_of_read_ne_none {w : Nat} {m : Memory w} {bound a : Nat} (hb : m.below bound) (h : m.read a ≠ none) :
    a < bound := by
  obtain ⟨v, hv⟩ := Option.ne_none_iff_exists'.1 h
  exact hb (a, v) (Memory.mem_of_read hv)

/-- Settles O60: `step_keeps_params_scanRom`, the bound each parameter set carries, and the invariant's bound on PIX. -/
theorem parametersFixed : Obligations.ParametersFixed :=
  ⟨fun _ _ => step_keeps_params_scanRom, fun s => s.params.pixSize_le,
    fun s _ hs ha => (Memory.lt_of_read_ne_none hs.memories.pixBelow ha).trans_le s.params.pixSize_le⟩

end Sys2Proof.Machine
end

section
/-!
PROOFS. The state (10_state R30 to R49): what every command leaves unchanged, what a host access to each register address
does, the status word and the reset values, and the invariant of the machine, which every step keeps.
-/

namespace Sys2Proof.Machine

/-! ## Memories whose cells exist -/

/-- A memory in canonical form that holds only cells below a bound: what the invariant asks of each of the five. -/
structure Memory.CanonicalBelow {w : Nat} (m : Memory w) (bound : Nat) : Prop where
  wf : m.wf
  below : m.below bound

section
variable {w bound : Nat} {m : Memory w}

/-- An empty memory has no cell at all. -/
theorem Memory.CanonicalBelow.nil : Memory.CanonicalBelow ([] : Memory w) bound := ⟨List.Pairwise.nil, nofun⟩

/-- A write of a cell that exists. -/
theorem Memory.CanonicalBelow.write (h : m.CanonicalBelow bound) {a : Nat} (ha : a < bound) (v : BitVec w) :
    (m.write a v).CanonicalBelow bound := by
  refine ⟨Memory.wf_write h.wf a v, fun c hc => ?_⟩
  rcases Memory.mem_write hc with rfl | hc
  · exact ha
  · exact h.below c hc

/-- A write of a list of cells that exist. -/
theorem Memory.CanonicalBelow.writeAll (h : m.CanonicalBelow bound) {l : List (Nat × BitVec w)}
    (hl : ∀ a ∈ l.map Prod.fst, a < bound) : (m.writeAll l).CanonicalBelow bound := by
  induction l generalizing m with
  | nil => exact h
  | cons c rest ih =>
    obtain ⟨hc, hrest⟩ := List.forall_mem_cons.1 hl
    exact ih (h.write hc c.2) hrest

/-- An erasure adds no cell. -/
theorem Memory.CanonicalBelow.eraseBelow (h : m.CanonicalBelow bound) (n : Nat) :
    (m.eraseBelow n).CanonicalBelow bound :=
  ⟨Memory.wf_eraseBelow h.wf n, fun c hc => h.below c (List.mem_of_mem_filter hc)⟩

end

/-! ## The invariant and the updates of the state: one rule per update -/

section
variable {s : State}

theorem Inv.vin (h : Inv s) : s.vin.CanonicalBelow 32 := ⟨h.memories.vinWf, h.memories.vinBelow⟩

theorem Inv.vout (h : Inv s) : s.vout.CanonicalBelow 32 := ⟨h.memories.voutWf, h.memories.voutBelow⟩

theorem Inv.coef (h : Inv s) : s.coef.CanonicalBelow 1024 := ⟨h.memories.coefWf, h.memories.coefBelow⟩

theorem Inv.tok (h : Inv s) : s.tok.CanonicalBelow 1024 := ⟨h.memories.tokWf, h.memories.tokBelow⟩

theorem Inv.pix (h : Inv s) : s.pix.CanonicalBelow s.params.pixSize := ⟨h.memories.pixWf, h.memories.pixBelow⟩

/-- The invariant says nothing of the host's side. -/
theorem Inv.set_host (h : Inv s) (l : List HostAccess) : Inv { s with host := l } :=
  ⟨{ h.memories with }, { h.registers with }, { h.tables with }⟩

theorem Inv.set_readData (h : Inv s) (v : Option Word) : Inv { s with readData := v } :=
  ⟨{ h.memories with }, { h.registers with }, { h.tables with }⟩

/-- DST_BASE and DST_STRIDE may hold any word: a RECON checks them. -/
theorem Inv.set_dst (h : Inv s) (b st : Option Word) : Inv { s with dstBase := b, dstStride := st } :=
  ⟨{ h.memories with }, { h.registers with }, { h.tables with }⟩

theorem Inv.set_res (h : Inv s) (r0 r1 r2 r3 : Option Word) :
    Inv { s with res0 := r0, res1 := r1, res2 := r2, res3 := r3 } :=
  ⟨{ h.memories with }, { h.registers with }, { h.tables with }⟩

theorem Inv.set_vin (h : Inv s) {m : Memory 32} (hm : m.CanonicalBelow 32) : Inv { s with vin := m } :=
  ⟨{ h.memories with vinWf := hm.wf, vinBelow := hm.below }, { h.registers with }, { h.tables with }⟩

theorem Inv.set_vout (h : Inv s) {m : Memory 32} (hm : m.CanonicalBelow 32) : Inv { s with vout := m } :=
  ⟨{ h.memories with voutWf := hm.wf, voutBelow := hm.below }, { h.registers with }, { h.tables with }⟩

theorem Inv.set_tok (h : Inv s) {m : Memory 3} (hm : m.CanonicalBelow 1024) : Inv { s with tok := m } :=
  ⟨{ h.memories with tokWf := hm.wf, tokBelow := hm.below }, { h.registers with }, { h.tables with }⟩

theorem Inv.set_coef (h : Inv s) {m : Memory 32} (hm : m.CanonicalBelow 1024) : Inv { s with coef := m } :=
  ⟨{ h.memories with coefWf := hm.wf, coefBelow := hm.below }, { h.registers with }, { h.tables with }⟩

theorem Inv.set_pix (h : Inv s) {m : Memory 16} (hm : m.CanonicalBelow s.params.pixSize) (d : Nat) :
    Inv { s with pix := m, drawCount := d } :=
  ⟨{ h.memories with pixWf := hm.wf, pixBelow := hm.below }, { h.registers with }, { h.tables with }⟩

/-- SCAN_SEL may hold the word of any scan that exists (43_scan_context R268). -/
theorem Inv.set_scanSel (h : Inv s) {sz : TxSize} {kind : ScanKind} (hk : ScanId.of sz kind ≠ none) :
    Inv { s with scanSel := some (scanSelWord kind sz) } :=
  ⟨{ h.memories with }, { h.registers with scanSel := fun _ hv => ⟨sz, kind, (Option.some.inj hv).symm, hk⟩ },
    { h.tables with }⟩

/-- CTX_OUT may hold 0 to 5 (10_state R40). -/
theorem Inv.set_ctxOut (h : Inv s) {v : BitVec 3} (hv : v.toNat ≤ 5) : Inv { s with ctxOut := some v } :=
  ⟨{ h.memories with }, { h.registers with ctxOut := fun _ hu => Option.some.inj hu ▸ hv }, { h.tables with }⟩

/-- The tables may be what BUILD gives (43_scan_context R263). -/
theorem Inv.set_tables (h : Inv s) : Inv { s with tables := some (buildTables s.scanRom) } :=
  ⟨{ h.memories with }, { h.registers with }, { h.tables with built := fun _ ht => (Option.some.inj ht).symm }⟩

/-- FAULT_CMD may hold any word once a fault is recorded (10_state R36). -/
theorem Inv.raise (h : Inv s) (c : Cause) (w : Word) : Inv (raise c w s) := by
  cases hf : s.fault with
  | none =>
    rw [raise_of_none hf]
    exact ⟨{ h.memories with }, { h.registers with faultCmd := nofun }, { h.tables with }⟩
  | some d => rwa [raise_of_some hf]

/-- After reset the invariant holds for every parameter set, every SCAN_ROM the spec allows and every PIX within it. -/
theorem inv_afterReset {p : Params} {rom : ScanRom} {pix : Memory 16} (hrom : ScanRomOk rom)
    (hpix : pix.CanonicalBelow p.pixSize) : Inv (State.afterReset p rom pix) where
  memories := ⟨.nil, .nil, .nil, .nil, hpix.wf, nofun, nofun, nofun, nofun, hpix.below⟩
  registers := ⟨fun _ => rfl, nofun, nofun⟩
  tables := ⟨hrom, nofun⟩

/-- The platform's reset keeps PIX and SCAN_ROM, and with them the invariant. -/
theorem Inv.platformReset (h : Inv s) : Inv (platformReset s) :=
  have hr := inv_afterReset h.tables.rom h.pix
  ⟨{ hr.memories with }, { hr.registers with }, { hr.tables with }⟩

end

/-- Settles O17: the SCAN_ROM after reset satisfies R262 whatever its open tables are, and every memory is empty. -/
theorem invariantAtReset : Obligations.InvariantAtReset := inv_afterReset Config.scanRom_ok .nil

/-! ## The host register map -/

/-- The cells that addresses stand for exist (10_state R33). -/
def HostReg.InRange : HostReg → Prop
  | .vin k | .vout k => k < 32
  | .coef k | .tok k => k < 1024
  | _ => True

/-- No address of the register map lies outside its memory. -/
theorem hostReg_inRange (addr : Nat) : (hostReg addr).InRange := by
  unfold hostReg
  iterate 11 refine iteInduction (motive := HostReg.InRange) (fun _ => trivial) (fun _ => ?_)
  iterate 4 refine iteInduction (motive := HostReg.InRange) (fun h => show addr - _ < _ by omega) (fun _ => ?_)
  trivial

theorem hostReg_vin {k : Nat} (h : k < 32) : hostReg (0x0100 + k) = .vin k := by
  rw [hostReg]
  repeat rw [if_neg (by omega)]
  rw [if_pos (by omega), Nat.add_sub_cancel_left]

theorem hostReg_vout {k : Nat} (h : k < 32) : hostReg (0x0120 + k) = .vout k := by
  rw [hostReg]
  repeat rw [if_neg (by omega)]
  rw [if_pos (by omega), Nat.add_sub_cancel_left]

theorem hostReg_coef {k : Nat} (h : k < 1024) : hostReg (0x1000 + k) = .coef k := by
  rw [hostReg]
  repeat rw [if_neg (by omega)]
  rw [if_pos (by omega), Nat.add_sub_cancel_left]

theorem hostReg_tok {k : Nat} (h : k < 1024) : hostReg (0x2000 + k) = .tok k := by
  rw [hostReg]
  repeat rw [if_neg (by omega)]
  rw [if_pos (by omega), Nat.add_sub_cancel_left]

theorem hostReg_reserved {addr : Nat} (h : ReservedAddr addr) : hostReg addr = .reserved := by
  rw [hostReg]
  repeat rw [if_neg (by omega)]

/-! ## Every step keeps the invariant -/

/-- A host write to a register address keeps the invariant: it stores to a cell that exists, or to DST_BASE or
DST_STRIDE. -/
theorem Inv.hostStore {s : State} (h : Inv s) (addr : Nat) (v : Word) : Inv (hostStore s addr v) := by
  have hr := hostReg_inRange addr
  unfold Machine.hostStore
  split <;> rename_i heq
  · exact h.set_dst _ _
  · exact h.set_dst _ _
  · rw [heq] at hr
    exact h.set_vin (h.vin.write hr v)
  · rw [heq] at hr
    exact h.set_coef (h.coef.write hr v)
  · rw [heq] at hr
    exact h.set_tok (h.tok.write hr _)
  all_goals exact h

/-- The cells of a destination block that passes its check exist. -/
theorem destAddrs_lt_pixSize {s : State} {sz : TxSize} {b : DestBlock} (hb : checkDest s sz = .ok b) {a : Nat}
    (ha : a ∈ destAddrs b sz.side) : a < s.params.pixSize := by
  obtain ⟨-, -, -, -, -, -, hlast⟩ := checkDest_ok.1 hb
  obtain ⟨k, hk, rfl⟩ := mem_destAddrs.1 ha
  have hN : 0 < sz.side := by cases sz <;> decide
  have hi : k / sz.side ≤ sz.side - 1 := Nat.le_pred_of_lt (Nat.div_lt_of_lt_mul hk)
  have hj : k % sz.side ≤ sz.side - 1 := Nat.le_pred_of_lt (Nat.mod_lt _ hN)
  have hrow := Nat.mul_le_mul_right b.stride hi
  unfold destAddr at hlast ⊢
  omega

/-- The write-back of a RECON keeps the invariant: it writes the cells of its destination block, with samples or with
draws, and erases coefficients. -/
theorem Inv.writeBack {s : State} (h : Inv s) {sz : TxSize} {x : ReconInput} (hx : reconInput sz s = .ok x)
    (bd : BitDepth) (premise : Bool) (res : Vec) : Inv (writeBack sz bd x premise res s) := by
  obtain ⟨hb, -, -⟩ := reconInput_ok.1 hx
  have hcoef := h.coef.eraseBelow sz.area
  unfold Machine.writeBack
  split
  · exact (h.set_pix (h.pix.writeAll fun a ha => destAddrs_lt_pixSize hb (sampleWrites_fst .. ▸ ha)) _).set_coef hcoef
  · exact (h.set_pix (h.pix.writeAll fun a ha => destAddrs_lt_pixSize hb (drawWrites_fst .. ▸ ha)) _).set_coef hcoef

theorem runRecon_keeps_inv {t : TxType} {sz : TxSize} {bdsel : BitVec 2} {eob : BitVec 11} {s u : State} (hs : Inv s)
    (h : runRecon t sz bdsel eob s = .ok u) : Inv u := by
  obtain ⟨bd, x, -, -, -, hx, rfl⟩ := runRecon_ok.1 h
  exact hs.writeBack hx _ _ _

theorem runWht_keeps_inv {bdsel : BitVec 2} {eob : BitVec 11} {s u : State} (hs : Inv s)
    (h : runWht bdsel eob s = .ok u) : Inv u := by
  obtain ⟨bd, x, -, -, hx, rfl⟩ := runWht_ok.1 h
  exact hs.writeBack hx _ _ _

/-- A kernel of at most 32 lanes keeps the invariant. -/
theorem runKernel_keeps_inv {size : Nat} {K : Nat → Vec → Vec} {bdsel : BitVec 2} {s u : State} (hsize : size ≤ 32)
    (hs : Inv s) (h : runKernel size K bdsel s = .ok u) : Inv u := by
  obtain ⟨bd, lanes, -, -, rfl⟩ := runKernel_ok.1 h
  refine hs.set_vout (hs.vout.writeAll fun a ha => ?_)
  rw [laneWrites_fst, List.mem_range] at ha
  exact ha.trans_le hsize

theorem runInit_keeps_inv {s u : State} (hs : Inv s) (h : runInit s = .ok u) : Inv u := by
  rcases runInit_ok s with ⟨_, -, h'⟩ | ⟨-, h'⟩
  · cases h'.symm.trans h
    exact hs
  · cases h'.symm.trans h
    exact hs.set_tables

/-- Every kind but ROW and COL at 32x32 names a scan (30_encoding R109). -/
theorem ScanId.of_ne_none {sz : TxSize} {kind : ScanKind} (h : sz = .s32 → kind = .default) :
    ScanId.of sz kind ≠ none := by
  cases sz with
  | s32 => rw [h rfl]; exact nofun
  | s4 | s8 | s16 => cases kind <;> exact nofun

/-- The kind GETSCAN selects at 32x32 is the default one (43_scan_context R267). -/
theorem selectKind_s32 (map : IntraScanMap) (chroma lossless : Bool) (mode : Option IntraMode) :
    selectKind map .s32 chroma lossless mode = .default := by
  cases mode with
  | none => rfl
  | some m => cases lossless <;> rfl

theorem runGetscan_keeps_inv {sz : TxSize} {chroma isInter lossless : Bool} {mode : BitVec 4} {s u : State}
    (hs : Inv s) (h : runGetscan sz chroma isInter lossless mode s = .ok u) : Inv u := by
  obtain ⟨m, tables, -, -, -, rfl⟩ := runGetscan_ok.1 h
  refine hs.set_scanSel (ScanId.of_ne_none fun hsz => ?_)
  subst hsz
  exact selectKind_s32 ..

theorem runScanlookup_keeps_inv {sz : TxSize} {kind : BitVec 2} {pos : BitVec 11} {s u : State} (hs : Inv s)
    (h : runScanlookup sz kind pos s = .ok u) : Inv u := by
  obtain ⟨id, p, tables, -, -, -, rfl⟩ := runScanlookup_ok.1 h
  exact hs.set_res ..

/-- A computation of a check and then another passes exactly when both pass. -/
theorem except_bind_ok {α β : Type} {x : Except Cause α} {f : α → Except Cause β} {b : β} :
    x >>= f = .ok b ↔ ∃ a, x = .ok a ∧ f a = .ok b := by
  cases x with
  | ok a => exact ⟨fun h => ⟨a, rfl, h⟩, fun ⟨_, ha, h⟩ => Except.ok.inj ha ▸ h⟩
  | error c => exact ⟨nofun, nofun⟩

theorem orUnwritten_ok {α : Type} {o : Option α} {a : α} : orUnwritten o = .ok a ↔ o = some a := by
  cases o <;> simp

/-- The token check passes for the classes 0 to 5 only, and gives the class (10_state R45). -/
theorem checkToken_ok {t : BitVec 3} {n : Nat} : checkToken t = .ok n ↔ t.toNat ≤ 5 ∧ n = t.toNat := by
  unfold checkToken
  split <;> simp_all [eq_comm]

/-- The context of a position with two neighbours (43_scan_context R271). -/
theorem contextOf_two_ok {tok : Memory 3} {a b c : Nat} :
    contextOf tok (some a, some b) = .ok c ↔
      ∃ ta tb, tok.read a = some ta ∧ tok.read b = some tb ∧ ta.toNat ≤ 5 ∧ tb.toNat ≤ 5 ∧
        c = (1 + ta.toNat + tb.toNat) / 2 := by
  simp [contextOf, except_bind_ok, orUnwritten_ok, checkToken_ok, pure, Except.pure, eq_comm (a := c)]

/-- The context of a position with one neighbour (43_scan_context R271). -/
theorem contextOf_one_ok {tok : Memory 3} {a c : Nat} :
    contextOf tok (some a, none) = .ok c ↔ ∃ ta, tok.read a = some ta ∧ ta.toNat ≤ 5 ∧ c = ta.toNat := by
  simp [contextOf, except_bind_ok, orUnwritten_ok, checkToken_ok]

/-- A context is 0 to 5, as the tokens it is computed from (10_state R40). -/
theorem contextOf_le {tok : Memory 3} {nb : Option Nat × Option Nat} {c : Nat} (h : contextOf tok nb = .ok c) : c ≤ 5 := by
  match nb with
  | (some a, some b) =>
    obtain ⟨ta, tb, -, -, hta, htb, rfl⟩ := contextOf_two_ok.1 h
    omega
  | (some a, none) =>
    obtain ⟨ta, -, hta, rfl⟩ := contextOf_one_ok.1 h
    exact hta
  | (none, _) => cases h

theorem runCtx_keeps_inv {sz : TxSize} {kind : BitVec 2} {pos : BitVec 11} {s u : State} (hs : Inv s)
    (h : runCtx sz kind pos s = .ok u) : Inv u := by
  obtain ⟨id, n, tables, -, -, -, ⟨-, rfl⟩ | ⟨-, c, hc, rfl⟩⟩ := runCtx_ok.1 h
  · exact hs.set_ctxOut (by decide)
  · refine hs.set_ctxOut ?_
    rw [BitVec.toNat_ofNat]
    exact (Nat.mod_le _ _).trans (contextOf_le hc)

/-- A command whose own effect keeps the invariant keeps it, for ContractViolation does. -/
theorem conclude_keeps_inv {i : Instr} {s t : State} {r : Except Cause State} (hs : Inv s)
    (hr : ∀ u, r = .ok u → Inv u) (h : conclude i s r = .next t) : Inv t := by
  rcases conclude_cases i s r with ⟨u, hu, hc⟩ | ⟨c, -, hc⟩
  · cases hc.symm.trans h
    exact hr t hu
  · cases hc.symm.trans h
    exact hs.raise c _

/-- Every command keeps the invariant. -/
theorem exec_keeps_inv {i : Instr} {s t : State} (hs : Inv s) (h : exec i s = .next t) : Inv t := by
  cases i with
  | reconDctDct | reconAdstDct | reconDctAdst | reconAdstAdst | reconFlipadstDct | reconDctFlipadst
  | reconFlipadstFlipadst | reconAdstFlipadst | reconFlipadstAdst | reconIdtx | reconVDct | reconHDct | reconVAdst
  | reconHAdst | reconVFlipadst | reconHFlipadst => exact conclude_keeps_inv hs (fun _ => runRecon_keeps_inv hs) h
  | reconWht => exact conclude_keeps_inv hs (fun _ => runWht_keeps_inv hs) h
  | kernIdct4 | kernIdct8 | kernIdct16 | kernIdct32 | kernIadst4 | kernIadst8 | kernIadst16 | kernIhalfright32
  | kernIidtx4 | kernIidtx8 | kernIidtx16 | kernIidtx32 | kernIwht4 =>
    exact conclude_keeps_inv hs (fun _ => runKernel_keeps_inv (by decide) hs) h
  | init => exact conclude_keeps_inv hs (fun _ => runInit_keeps_inv hs) h
  | getscan => exact conclude_keeps_inv hs (fun _ => runGetscan_keeps_inv hs) h
  | scanlookup => exact conclude_keeps_inv hs (fun _ => runScanlookup_keeps_inv hs) h
  | ctx => exact conclude_keeps_inv hs (fun _ => runCtx_keeps_inv hs) h

/-- Every write to CMD keeps the invariant. -/
theorem writeCmd_keeps_inv {w : Word} {s t : State} (hs : Inv s) (h : writeCmd w s = .next t) : Inv t := by
  rcases writeCmd_cases h with ⟨-, rfl⟩ | ⟨-, i, -, he⟩ | ⟨-, c, -, rfl⟩
  · exact hs
  · exact exec_keeps_inv hs he
  · exact hs.raise c w

/-- Every access of the host keeps the invariant. -/
theorem HostEffect.keeps_inv {s t : State} {x : HostAccess} (hs : Inv s) (h : HostEffect s x t) : Inv t := by
  cases h with
  | command w t h => exact writeCmd_keeps_inv hs h
  | store addr w => exact hs.hostStore addr w
  | read => exact hs.set_readData _
  | pixWrite a v ha => exact hs.set_pix (hs.pix.write ha v) _
  | pixRead => exact hs.set_readData _
  | reset => exact hs.platformReset
  | sharedDraw a bd ha => exact hs.set_pix (hs.pix.write ha _) _

/-- Settles O16: an idle step changes nothing, and every access of the host keeps the invariant (`HostEffect.keeps_inv`),
a command by its family's rule (`exec_keeps_inv`). -/
theorem stepKeepsInvariant : Obligations.StepKeepsInvariant := by
  intro s t hs h
  rcases step_cases h with ⟨-, rfl⟩ | ⟨x, rest, -, he⟩
  · exact hs
  · exact he.keeps_inv (hs.set_host rest)

/-! ## What a command leaves unchanged, and who writes each result -/

/-- No family's effect reaches the operands the host sets, or the host's side. -/
theorem Effect.keeps_operands {s t : State} {i : Instr} (h : Effect s i t) :
    t.dstBase = s.dstBase ∧ t.dstStride = s.dstStride ∧ t.vin = s.vin ∧ t.tok = s.tok ∧ t.host = s.host ∧
      t.readData = s.readData := by
  cases h <;> exact ⟨rfl, rfl, rfl, rfl, rfl, rfl⟩

/-- Settles O18: neither a family's effect nor ContractViolation reaches an operand the host sets. -/
theorem commandsLeaveOperands : Obligations.CommandsLeaveOperands := by
  intro i s t h
  obtain ⟨hparams, hrom⟩ := exec_keeps_params_scanRom h
  rcases exec_cases i s with ⟨u, hu, he⟩ | ⟨c, hc⟩
  · cases hu.symm.trans h
    obtain ⟨hbase, hstride, hvin, htok, hhost, hread⟩ := he.keeps_operands
    exact ⟨hbase, hstride, hvin, htok, hparams, hrom, hhost, hread⟩
  · cases hc.symm.trans h
    exact ⟨raise_dstBase .., raise_dstStride .., raise_vin .., raise_tok .., hparams, hrom, raise_host ..,
      raise_readData ..⟩

/-- Settles O19: ContractViolation changes no result, and each family's effect changes its own results only. -/
theorem resultOwners : Obligations.ResultOwners := by
  intro i s t h
  rcases exec_cases i s with ⟨u, hu, he⟩ | ⟨c, hc⟩
  · cases hu.symm.trans h
    cases he with
    | recon _ _ _ _ hi => simp [hi]
    | kern k bdsel m => exact ⟨by simp, by simp, by simp, fun _ => ⟨k, bdsel, rfl⟩, by simp, by simp⟩
    | init hnone => simp [hnone]
    | initAgain => simp
    | getscan => simp
    | scanlookup => simp
    | ctx => simp
  · cases hc.symm.trans h
    simp

/-! ## Host accesses -/

/-- A step takes the host's next access. -/
theorem step_of_host {s : State} {x : HostAccess} {rest : List HostAccess} (h : s.host = x :: rest) :
    step s = hostAccess x { s with host := rest } := by
  simp [step, hostStep, h]

/-- A step on a write to CMD runs the word on an engine that is not faulted. -/
theorem step_of_command {s : State} {w : Word} {rest : List HostAccess} (hf : s.fault = none)
    (h : s.host = .write 0x0000 w :: rest) : step s = runWord w { s with host := rest } := by
  rw [step_of_host h, hostAccess, hostWrite_cmd, writeCmd, hf]

theorem runWord_of_decode {s : State} {w : Word} {i : Instr} (h : decode s.params w = .ok i) :
    runWord w s = exec i s := by
  simp [runWord, h]

theorem runWord_of_decode_error {s : State} {w : Word} {c : Cause} (h : decode s.params w = .error c) :
    runWord w s = .next (raise c w s) := by
  simp [runWord, h]

/-- Settles O8: `step_of_command` with each outcome of the decoder; a placed word is the low 32 bits of itself. -/
theorem stepRunsDecodedCommand : Obligations.StepRunsDecodedCommand := by
  refine ⟨fun s rest w i hf hs hd => ?_, fun s rest w c hf hs hd => ?_, fun s w i hf hd => ?_⟩
  · rw [step_of_command hf hs]
    exact runWord_of_decode hd
  · rw [step_of_command hf hs]
    exact (runWord_of_decode_error (s := { s with host := rest }) hd).trans (congrArg _ (raise_of_none hf))
  · have hs : (s.withFetchWord 32 w.toNat).host = .write 0x0000 w :: s.host := by
      rw [withFetchWord_host, BitVec.toNat_mod_cancel, BitVec.ofNat_toNat, BitVec.setWidth_eq]
    rw [step_of_command (s := s.withFetchWord 32 w.toNat) hf hs]
    exact runWord_of_decode hd

/-! ## The status word and the reset values -/


/-- Bit 0 of STATUS is FAULT (10_state R35). -/
theorem statusWord_fault (s : State) : (statusWord s).getLsbD 0 = s.fault.isSome := by
  simp only [statusWord, BitVec.getLsbD_append]
  simp [statusFault]

/-- Bit 1 of STATUS is READY (10_state R35). -/
theorem statusWord_ready (s : State) : (statusWord s).getLsbD 1 = s.tables.isSome := by
  simp only [statusWord, BitVec.getLsbD_append]
  simp [statusReady, State.tablesReady]

/-- Above READY, STATUS holds CAUSE at bit 8 and zeros (10_state R35). -/
theorem statusWord_high (s : State) {j : Nat} (hj : 2 ≤ j) :
    (statusWord s).getLsbD j = (decide (8 ≤ j) && (statusCause s).getLsbD (j - 8)) := by
  obtain ⟨j, rfl⟩ := Nat.exists_eq_add_of_le' hj
  simp only [statusWord, BitVec.getLsbD_append]
  by_cases h : j < 6
  · simp [h]
  · have hcause : (statusCause s).getLsbD (j - 6) = true → j - 6 < 8 := BitVec.lt_of_getLsbD
    simpa [h, show 6 ≤ j by omega] using hcause

theorem statusWord_zero_2_6 (s : State) : field (statusWord s) 2 6 = 0#6 := by
  ext i hi
  simp [field, statusWord_high, show ¬8 ≤ 2 + i by omega]

theorem statusWord_zero_16_16 (s : State) : field (statusWord s) 16 16 = 0#16 := by
  ext i hi
  have hcause : (statusCause s).getLsbD (16 + i - 8) = false := BitVec.getLsbD_of_ge _ _ (by omega)
  simp [field, statusWord_high s (show 2 ≤ 16 + i by omega), hcause]

theorem statusWord_cause (s : State) : field (statusWord s) 8 8 = statusCause s := by
  ext i hi
  simp [field, statusWord_high s (show 2 ≤ 8 + i by omega), BitVec.getLsbD_eq_getElem hi]

theorem statusCause_of_none {s : State} (h : s.fault = none) : statusCause s = 0x00#8 := by
  simp [statusCause, h]

theorem statusCause_of_some {s : State} {c : Cause} (h : s.fault = some c) : statusCause s = causeCode c := by
  simp [statusCause, h]

/-- Settles O14: the fields of STATUS by their bits, and CAUSE by the code of each cause. -/
theorem statusLayout : Obligations.StatusLayout := by
  refine fun s => ⟨statusWord_fault s, statusWord_ready s, statusWord_zero_2_6 s, statusWord_zero_16_16 s, fun h => ?_,
    fun c h => ?_⟩
  · rw [statusWord_cause, statusCause_of_none h]
  · rw [statusWord_cause, statusCause_of_some h]
    cases c <;> rfl

/-- STATUS of an engine with no fault and no tables is 0. -/
theorem statusWord_of_none {s : State} (hf : s.fault = none) (ht : s.tables = none) : statusWord s = 0#32 := by
  simp [statusWord, statusFault, statusReady, State.tablesReady, statusCause, hf, ht]

/-- Settles O13: both resets are field by field the reset values of R49, and an empty memory reads as unwritten. -/
theorem resetValues : Obligations.ResetValues := by
  refine ⟨fun t ht => ?_, fun s t ht => ?_⟩
  · rcases ht with rfl | ⟨s, rfl⟩ <;>
      exact ⟨statusWord_of_none rfl rfl, rfl, rfl, rfl, rfl, rfl, rfl, rfl, rfl, rfl, rfl, rfl, Memory.read_nil,
        Memory.read_nil, Memory.read_nil, Memory.read_nil⟩
  · subst ht
    exact ⟨rfl, rfl, rfl⟩

/-! ## Host reads and writes -/

/-- A host write to an address other than CMD stores, whatever STATUS.FAULT holds (60_exceptions R303). -/
theorem step_of_store {s : State} {addr : Nat} {v : Word} {rest : List HostAccess} (ha : addr ≠ 0x0000)
    (h : s.host = .write addr v :: rest) : step s = .next (hostStore { s with host := rest } addr v) := by
  rw [step_of_host h, hostAccess, hostWrite_other ha]

section
variable (s : State) (v : Word)

theorem hostStore_to_vin {k : Nat} (h : k < 32) :
    hostStore s (0x0100 + k) v = { s with vin := s.vin.write k v } := by
  rw [hostStore, hostReg_vin h]

theorem hostStore_to_coef {k : Nat} (h : k < 1024) :
    hostStore s (0x1000 + k) v = { s with coef := s.coef.write k v } := by
  rw [hostStore, hostReg_coef h]

theorem hostStore_to_tok {k : Nat} (h : k < 1024) :
    hostStore s (0x2000 + k) v = { s with tok := s.tok.write k (v.setWidth 3) } := by
  rw [hostStore, hostReg_tok h]

/-- A host write to a read-only or reserved address is ignored (10_state R48). -/
theorem hostStore_ignored {addr : Nat}
    (h : addr ∈ [0x0001, 0x0002, 0x0005, 0x0006, 0x0008, 0x0009, 0x000A, 0x000B] ∨
      (0x0120 ≤ addr ∧ addr ≤ 0x013F) ∨ ReservedAddr addr) : hostStore s addr v = s := by
  rcases h with h | ⟨hlo, hhi⟩ | h
  · simp only [List.mem_cons, List.not_mem_nil, or_false] at h
    rcases h with rfl | rfl | rfl | rfl | rfl | rfl | rfl | rfl <;> rfl
  · obtain ⟨k, rfl⟩ := Nat.exists_eq_add_of_le hlo
    rw [hostStore, hostReg_vout (by omega)]
  · rw [hostStore, hostReg_reserved h]

end

/-- Settles O24: the store of each kind of address, with `Memory.read_write` for what the written memory reads as. -/
theorem hostWrites : Obligations.HostWrites := by
  intro s rest addr v hs
  refine ⟨?_, ?_, ?_, ?_, ?_, fun h => ?_⟩
  · rintro rfl
    exact step_of_store (by decide) hs
  · rintro rfl
    exact step_of_store (by decide) hs
  · rintro k hk rfl
    refine ⟨s.vin.write k v, ?_, fun a => Memory.read_write ..⟩
    rw [step_of_store (by omega) hs, hostStore_to_vin _ _ hk]
  · rintro k hk rfl
    refine ⟨s.coef.write k v, ?_, fun a => Memory.read_write ..⟩
    rw [step_of_store (by omega) hs, hostStore_to_coef _ _ hk]
  · rintro k hk rfl
    refine ⟨s.tok.write k (v.setWidth 3), ?_, fun a => ?_⟩
    · rw [step_of_store (by omega) hs, hostStore_to_tok _ _ hk]
    · rw [Memory.read_write, BitVec.setWidth_eq_extractLsb' (by decide)]
  · have ha : addr ≠ 0 := by
      rintro rfl
      revert h
      decide
    rw [step_of_store ha hs, hostStore_ignored _ _ h]

section
variable (s : State)

theorem hostRead_vin {k : Nat} (h : k < 32) : hostRead s (0x0100 + k) = s.vin.read k := by
  rw [hostRead, hostReg_vin h]

theorem hostRead_vout {k : Nat} (h : k < 32) : hostRead s (0x0120 + k) = s.vout.read k := by
  rw [hostRead, hostReg_vout h]

theorem hostRead_coef {k : Nat} (h : k < 1024) : hostRead s (0x1000 + k) = s.coef.read k := by
  rw [hostRead, hostReg_coef h]

theorem hostRead_tok {k : Nat} (h : k < 1024) :
    hostRead s (0x2000 + k) = (s.tok.read k).map (BitVec.zeroExtend 32) := by
  rw [hostRead, hostReg_tok h]

theorem hostRead_reserved {addr : Nat} (h : ReservedAddr addr) : hostRead s addr = some 0#32 := by
  rw [hostRead, hostReg_reserved h]

end

/-- Settles O23: a read reaches the host's side only; the registers are read by the register map's own rows, the
memories and the reserved ranges by their rules. -/
theorem hostReads : Obligations.HostReads :=
  ⟨fun _ _ _ hs => step_of_host hs,
    fun s => ⟨rfl, rfl, rfl, rfl, rfl, rfl, rfl, rfl, rfl, rfl, rfl,
      fun _ hk => ⟨hostRead_vin s hk, hostRead_vout s hk⟩,
      fun _ hk => ⟨hostRead_coef s hk, hostRead_tok s hk⟩,
      fun _ => hostRead_reserved s⟩⟩

end Sys2Proof.Machine
end

section
/-!
PROOFS. The memories (20_memory R70, R71, R83): who changes PIX, the addresses of a destination block, and the host's
own accesses to PIX cells.
-/

namespace Sys2Proof.Machine

/-! ## Who changes PIX -/

/-- A write to CMD that changes PIX ran a RECON on an engine that is not faulted: an ignored write changes nothing, and
ContractViolation does not reach PIX. -/
theorem isRecon_of_writeCmd_pix_ne {w : Word} {s t : State} (h : writeCmd w s = .next t) (hne : t.pix ≠ s.pix) :
    s.fault = none ∧ ∃ i, decode s.params w = .ok i ∧ isRecon i = true := by
  rcases writeCmd_cases h with ⟨-, rfl⟩ | ⟨hf, i, hd, he⟩ | ⟨-, c, -, rfl⟩
  · exact absurd rfl hne
  · obtain ⟨-, -, -, -, -, hrecon⟩ := resultOwners i s t he
    exact ⟨hf, i, hd, hrecon (.inr (.inl hne))⟩
  · exact absurd (raise_pix ..) hne

/-- An access of the host that changes PIX is one of its own PIX accesses or a write to CMD that runs a RECON. -/
theorem HostEffect.pix_writers {s t : State} {x : HostAccess} (h : HostEffect s x t) (hne : t.pix ≠ s.pix) :
    x.writesPix = true ∨
      ∃ w i, x = .write 0x0000 w ∧ s.fault = none ∧ decode s.params w = .ok i ∧ isRecon i = true := by
  cases h with
  | command w t h =>
    obtain ⟨hf, i, hd, hi⟩ := isRecon_of_writeCmd_pix_ne h hne
    exact .inr ⟨w, i, rfl, hf, hd, hi⟩
  | pixWrite | sharedDraw => exact .inl rfl
  | store addr w => exact absurd (hostStore_pix ..) hne
  | read | pixRead | reset => exact absurd rfl hne

/-- Settles O20: an idle step changes nothing, and the host's next access changes PIX only as `HostEffect.pix_writers`
says. -/
theorem pixWriters : Obligations.PixWriters := by
  intro s t h hne
  rcases step_cases h with ⟨-, rfl⟩ | ⟨x, rest, hs, he⟩
  · exact absurd rfl hne
  · have hhead : s.host.head? = some x := by rw [hs, List.head?_cons]
    rcases he.pix_writers hne with hx | ⟨w, i, rfl, hf, hd, hi⟩
    · exact .inl ⟨x, hhead, hx⟩
    · exact .inr ⟨w, i, hhead, hf, hd, hi⟩

/-! ## The addresses of a destination block -/

/-- The address of a cell grows with its row and its column. -/
theorem blockAddr_mono (base stride : Word) {i i' j j' : Nat} (hi : i ≤ i') (hj : j ≤ j') :
    blockAddr base stride i j ≤ blockAddr base stride i' j' :=
  Nat.add_le_add (Nat.add_le_add_left (Nat.mul_le_mul_right _ hi) _) hj

/-- With its column below the stride, a cell can be read off its address: the row is the quotient of the offset by the
stride, the column the remainder. -/
theorem blockAddr_offset_div_mod (base : Word) {stride : Word} {j : Nat} (hj : j < stride.toNat) (i : Nat) :
    (blockAddr base stride i j - base.toNat) / stride.toNat = i ∧
      (blockAddr base stride i j - base.toNat) % stride.toNat = j := by
  have hoffset : j + stride.toNat * i = blockAddr base stride i j - base.toNat := by
    rw [blockAddr, Nat.add_assoc, Nat.add_sub_cancel_left, Nat.mul_comm, Nat.add_comm]
  exact (Nat.div_mod_unique (Nat.zero_lt_of_lt hj)).2 ⟨hoffset, hj⟩

/-- Cells with columns below the stride have distinct addresses. -/
theorem blockAddr_inj {base stride : Word} {i i' j j' : Nat} (hj : j < stride.toNat) (hj' : j' < stride.toNat)
    (h : blockAddr base stride i j = blockAddr base stride i' j') : i = i' ∧ j = j' := by
  obtain ⟨hrow, hcol⟩ := blockAddr_offset_div_mod base hj i
  obtain ⟨hrow', hcol'⟩ := blockAddr_offset_div_mod base hj' i'
  rw [h] at hrow hcol
  exact ⟨hrow.symm.trans hrow', hcol.symm.trans hcol'⟩

/-- Settles O36: `blockAddr_mono` up to the last row and column, and `blockAddr_inj` at a stride of at least N. -/
theorem blockAddressesDistinct : Obligations.BlockAddressesDistinct := by
  intro sz base stride hwide i hi j hj
  refine ⟨blockAddr_mono base stride (Nat.le_sub_one_of_lt hi) (Nat.le_sub_one_of_lt hj), fun i' _ j' hj' h => ?_⟩
  exact blockAddr_inj (hj.trans_le hwide) (hj'.trans_le hwide) h

/-! ## The host's accesses to PIX -/

/-- An access to a PIX cell that exists completes (20_memory R70). -/
theorem onPixCell_of_lt {a : Nat} {s t : State} (h : a < s.params.pixSize) : onPixCell a s t = .next t :=
  onPixCell_next.2 ⟨h, rfl⟩

/-- An access to a PIX cell that does not exist stops (log entry 16). -/
theorem onPixCell_of_le {a : Nat} {s t : State} (h : s.params.pixSize ≤ a) :
    onPixCell a s t = .fault (.pixOutOfRange a) :=
  if_neg (Nat.not_lt.2 h)

/-- A draw lies in `[0, maxPix]`: it is a remainder by `2^bd`, which the 16 bits of a cell cannot make larger. -/
theorem drawSample_toNat_le (bd : BitDepth) (k : Nat) : (drawSample bd k).toNat ≤ 2 ^ bd.bits - 1 := by
  rw [drawSample, BitVec.toNat_ofNat]
  exact (Nat.mod_le _ _).trans (Nat.le_sub_one_of_lt (Nat.mod_lt _ (Nat.two_pow_pos _)))

/-- Settles O25: the host's next access is a PIX access, on a cell that exists (`onPixCell_of_lt`) or one that does not
(`onPixCell_of_le`). -/
theorem hostPixAccesses : Obligations.HostPixAccesses := by
  intro s rest a
  refine ⟨fun v hs ha => ?_, fun hs ha => ?_, fun bd hs ha => ?_, fun x hx hs ha => ?_⟩
  · exact ⟨s.pix.write a v, (step_of_host hs).trans (onPixCell_of_lt ha), fun b => Memory.read_write ..⟩
  · exact (step_of_host hs).trans (onPixCell_of_lt ha)
  · exact ⟨s.pix.write a (drawSample bd s.drawCount), drawSample bd s.drawCount, drawSample_toNat_le ..,
      (step_of_host hs).trans (onPixCell_of_lt ha), fun b => Memory.read_write ..⟩
  · rw [step_of_host hs]
    rcases hx with rfl | ⟨v, rfl⟩ | ⟨bd, rfl⟩ <;> exact onPixCell_of_le (s := { s with host := rest }) ha

end Sys2Proof.Machine
end

section
/-!
PROOFS. The encodings (30_encoding R101 to R118): the decoder and the encoder undo each other, every command's word
matches one row of the opcode table, the words that name no command raise the cause R115 gives, and a command with an
illegal field changes only STATUS and FAULT_CMD. What the decoder does with each format is said once, in `decode_*`
(the opcode) and in the equations of `decodeRecon`, `decodeKern`, `decodeInit`, `decodeGetscan` and `decodeScanpos`.
-/

namespace Sys2Proof

/-! ## Commands by their families -/

/-- A statement about all commands, family by family: the 16 RECON.<TxType> and the 13 KERN1D are one case each. -/
theorem Instr.of_families {P : Instr → Prop} (recon : ∀ t sz bdsel eob, P (TxType.instr t sz bdsel eob))
    (wht : ∀ bdsel eob, P (.reconWht bdsel eob)) (kern : ∀ k bdsel, P (KernelId.instr k bdsel)) (init : P .init)
    (getscan : ∀ sz chroma isInter lossless mode, P (.getscan sz chroma isInter lossless mode))
    (scanlookup : ∀ sz kind pos, P (.scanlookup sz kind pos)) (ctx : ∀ sz kind pos, P (.ctx sz kind pos)) (i : Instr) :
    P i := by
  cases i with
  | reconDctDct => exact recon .dctDct ..
  | reconAdstDct => exact recon .adstDct ..
  | reconDctAdst => exact recon .dctAdst ..
  | reconAdstAdst => exact recon .adstAdst ..
  | reconFlipadstDct => exact recon .flipadstDct ..
  | reconDctFlipadst => exact recon .dctFlipadst ..
  | reconFlipadstFlipadst => exact recon .flipadstFlipadst ..
  | reconAdstFlipadst => exact recon .adstFlipadst ..
  | reconFlipadstAdst => exact recon .flipadstAdst ..
  | reconIdtx => exact recon .idtx ..
  | reconVDct => exact recon .vDct ..
  | reconHDct => exact recon .hDct ..
  | reconVAdst => exact recon .vAdst ..
  | reconHAdst => exact recon .hAdst ..
  | reconVFlipadst => exact recon .vFlipadst ..
  | reconHFlipadst => exact recon .hFlipadst ..
  | reconWht => exact wht ..
  | kernIdct4 => exact kern .idct4 _
  | kernIdct8 => exact kern .idct8 _
  | kernIdct16 => exact kern .idct16 _
  | kernIdct32 => exact kern .idct32 _
  | kernIadst4 => exact kern .iadst4 _
  | kernIadst8 => exact kern .iadst8 _
  | kernIadst16 => exact kern .iadst16 _
  | kernIhalfright32 => exact kern .ihalfright32 _
  | kernIidtx4 => exact kern .iidtx4 _
  | kernIidtx8 => exact kern .iidtx8 _
  | kernIidtx16 => exact kern .iidtx16 _
  | kernIidtx32 => exact kern .iidtx32 _
  | kernIwht4 => exact kern .iwht4 _
  | init => exact init
  | getscan => exact getscan ..
  | scanlookup => exact scanlookup ..
  | ctx => exact ctx ..

@[simp] theorem encode_recon (t : TxType) (sz : TxSize) (bdsel : BitVec 2) (eob : BitVec 11) :
    encode (t.instr sz bdsel eob) = encodeRecon eob bdsel 0#1 t sz := by
  cases t <;> rfl

@[simp] theorem encode_kern (k : KernelId) (bdsel : BitVec 2) : encode (k.instr bdsel) = encodeKern k bdsel := by
  cases k <;> rfl

@[simp] theorem encode_wht (bdsel : BitVec 2) (eob : BitVec 11) :
    encode (.reconWht bdsel eob) = encodeRecon eob bdsel 1#1 .dctDct .s4 := rfl

@[simp] theorem encode_getscan (sz : TxSize) (chroma isInter lossless : Bool) (mode : BitVec 4) :
    encode (.getscan sz chroma isInter lossless mode) = encodeGetscan sz chroma isInter lossless mode := rfl

@[simp] theorem encode_scanlookup (sz : TxSize) (kind : BitVec 2) (pos : BitVec 11) :
    encode (.scanlookup sz kind pos) = encodeScanpos 5#4 sz kind pos := rfl

@[simp] theorem encode_ctx (sz : TxSize) (kind : BitVec 2) (pos : BitVec 11) :
    encode (.ctx sz kind pos) = encodeScanpos 6#4 sz kind pos := rfl

@[simp] theorem opRow_recon (t : TxType) (sz : TxSize) (bdsel : BitVec 2) (eob : BitVec 11) :
    opRow (t.instr sz bdsel eob) = opRowRecon t := by
  cases t <;> rfl

@[simp] theorem opRow_kern (k : KernelId) (bdsel : BitVec 2) : opRow (k.instr bdsel) = opRowKern k := by
  cases k <;> rfl

/-! ## The values of the fields -/

/-- TXTYPE 4 to 15 are the extended types (R105). -/
theorem TxType.extended_ofField (f : BitVec 4) : (TxType.ofField f).extended = true ↔ 4 ≤ f.toNat := by
  revert f; decide

/-- TXTYPE 0 is DCT_DCT (R105). -/
theorem TxType.ofField_eq_dctDct (f : BitVec 4) : TxType.ofField f = .dctDct ↔ f = 0#4 := by
  revert f; decide

/-- TXSZ 0 is 4x4 (R104). -/
theorem TxSize.ofField_eq_s4 (f : BitVec 2) : TxSize.ofField f = .s4 ↔ f = 0#2 := by
  revert f; decide

/-- KID 13 to 31 name no kernel (R108). -/
theorem KernelId.ofField_eq_none (f : BitVec 5) : KernelId.ofField f = none ↔ 13 ≤ f.toNat := by
  revert f; decide

/-- MODE 10 to 15 name no mode (R110). -/
theorem IntraMode.ofField_eq_none (f : BitVec 4) : IntraMode.ofField f = none ↔ 10 ≤ f.toNat := by
  revert f; decide

/-- The opcodes 1 to 6 are the ones R101 assigns; the others are reserved. -/
theorem opcode_cases (f : BitVec 4) :
    (f = 1#4 ∨ f = 2#4 ∨ f = 3#4 ∨ f = 4#4 ∨ f = 5#4 ∨ f = 6#4) ∨ f = 0#4 ∨ 7 ≤ f.toNat := by
  revert f; decide

/-- A one-bit field is clear or set. -/
theorem bit1_cases (b : BitVec 1) : b = 0#1 ∨ b = 1#1 := by revert b; decide

end Sys2Proof

namespace Sys2Proof.Machine

/-! ## What the decoder does with each format -/

theorem decode_recon (p : Params) {w : Word} (h : field w 0 4 = 1#4) : decode p w = decodeRecon p w := by
  simp [decode, h]

theorem decode_kern (p : Params) {w : Word} (h : field w 0 4 = 2#4) : decode p w = decodeKern w := by
  simp [decode, h]

theorem decode_init (p : Params) {w : Word} (h : field w 0 4 = 3#4) : decode p w = decodeInit w := by
  simp [decode, h]

theorem decode_getscan (p : Params) {w : Word} (h : field w 0 4 = 4#4) : decode p w = decodeGetscan w := by
  simp [decode, h]

theorem decode_scanlookup (p : Params) {w : Word} (h : field w 0 4 = 5#4) :
    decode p w = decodeScanpos w .scanlookup := by
  simp [decode, h]

theorem decode_ctx (p : Params) {w : Word} (h : field w 0 4 = 6#4) : decode p w = decodeScanpos w .ctx := by
  simp [decode, h]

/-- R101: a reserved opcode. -/
theorem decode_reservedOpcode (p : Params) {w : Word} (h : field w 0 4 = 0#4 ∨ 7 ≤ (field w 0 4).toNat) :
    decode p w = .error .illegalCommand := by
  have h' : (field w 0 4).toNat = 0 ∨ 7 ≤ (field w 0 4).toNat := h.imp_left (congrArg BitVec.toNat)
  unfold decode
  split
  case h_7 => rfl
  all_goals omega

/-- F_RECON with a reserved bit set (R102). -/
theorem decodeRecon_reserved (p : Params) {w : Word} (hres : field w 24 8 ≠ 0#8) :
    decodeRecon p w = .error .illegalCommand :=
  if_pos hres

section
variable {p : Params} {w : Word} (hres : field w 24 8 = 0#8)
include hres

/-- F_RECON with a type that does not exist on the engine (R105). -/
theorem decodeRecon_badTxType (htype : ¬ TypeOk p (TxType.ofField (field w 6 4))) :
    decodeRecon p w = .error .badTxType := by
  have hext : ((TxType.ofField (field w 6 4)).extended && !p.extTx) = true := by simpa using htype
  simp [decodeRecon, hres, hext]

/-- F_RECON with LOSSLESS set, DCT_DCT at 4x4; DCT_DCT exists on every engine. -/
theorem decodeRecon_wht (hl : field w 10 1 = 1#1) (ht : field w 6 4 = 0#4) (hsz : field w 4 2 = 0#2) :
    decodeRecon p w = .ok (.reconWht (field w 11 2) (field w 13 11)) := by
  have ht' := (TxType.ofField_eq_dctDct _).2 ht
  have hsz' := (TxSize.ofField_eq_s4 _).2 hsz
  simp [decodeRecon, hres, hl, ht', hsz', TxType.extended]

variable (htype : TypeOk p (TxType.ofField (field w 6 4)))
include htype

/-- F_RECON with LOSSLESS clear. -/
theorem decodeRecon_lossy (hl : field w 10 1 = 0#1) :
    decodeRecon p w = .ok ((TxType.ofField (field w 6 4)).instr (TxSize.ofField (field w 4 2)) (field w 11 2)
      (field w 13 11)) := by
  have hext : ¬ ((TxType.ofField (field w 6 4)).extended && !p.extTx) = true := by simpa using htype
  simp [decodeRecon, hres, hext, hl]

/-- F_RECON with LOSSLESS set and another type or size (R115, R226). -/
theorem decodeRecon_losslessIllegal (hl : field w 10 1 = 1#1) (h : ¬ (field w 6 4 = 0#4 ∧ field w 4 2 = 0#2)) :
    decodeRecon p w = .error .losslessIllegal := by
  have hext : ¬ ((TxType.ofField (field w 6 4)).extended && !p.extTx) = true := by simpa using htype
  rw [← TxType.ofField_eq_dctDct, ← TxSize.ofField_eq_s4] at h
  simp [decodeRecon, hres, hext, hl, h]

end

/-- F_KERN with a reserved bit set (R103). -/
theorem decodeKern_reserved {w : Word} (h : field w 13 19 ≠ 0#19 ∨ field w 9 2 ≠ 0#2) :
    decodeKern w = .error .illegalCommand :=
  if_pos h

section
variable {w : Word} (hhigh : field w 13 19 = 0#19) (hlow : field w 9 2 = 0#2)
include hhigh hlow

/-- F_KERN with a KID that names a kernel. -/
theorem decodeKern_kernel {k : KernelId} (hk : KernelId.ofField (field w 4 5) = some k) :
    decodeKern w = .ok (k.instr (field w 11 2)) := by
  simp [decodeKern, hhigh, hlow, hk]

/-- F_KERN with a KID that names none (R108). -/
theorem decodeKern_badKernel (hk : KernelId.ofField (field w 4 5) = none) : decodeKern w = .error .badKernel := by
  simp [decodeKern, hhigh, hlow, hk]

end

theorem decodeInit_reserved {w : Word} (h : field w 4 28 ≠ 0#28) : decodeInit w = .error .illegalCommand :=
  if_pos h

theorem decodeInit_ok {w : Word} (h : field w 4 28 = 0#28) : decodeInit w = .ok .init :=
  if_neg (not_not.2 h)

theorem decodeGetscan_reserved {w : Word} (h : field w 13 19 ≠ 0#19) : decodeGetscan w = .error .illegalCommand :=
  if_pos h

theorem decodeGetscan_ok {w : Word} (h : field w 13 19 = 0#19) :
    decodeGetscan w = .ok (.getscan (TxSize.ofField (field w 4 2)) (w.getLsbD 6) (w.getLsbD 7) (w.getLsbD 8)
      (field w 9 4)) :=
  if_neg (not_not.2 h)

section
variable {w : Word} (mk : TxSize → BitVec 2 → BitVec 11 → Instr)

theorem decodeScanpos_reserved (h : field w 19 13 ≠ 0#13) : decodeScanpos w mk = .error .illegalCommand :=
  if_pos h

theorem decodeScanpos_ok (h : field w 19 13 = 0#13) :
    decodeScanpos w mk = .ok (mk (TxSize.ofField (field w 4 2)) (field w 6 2) (field w 8 11)) :=
  if_neg (not_not.2 h)

end

/-! ## The word of a command decodes to the command -/

theorem decode_encodeRecon_lossy {p : Params} {t : TxType} (ht : TypeOk p t) (sz : TxSize) (bdsel : BitVec 2)
    (eob : BitVec 11) : decode p (encodeRecon eob bdsel 0#1 t sz) = .ok (t.instr sz bdsel eob) := by
  rw [decode_recon p (encodeRecon_opc ..), decodeRecon_lossy (encodeRecon_reserved ..) (by simpa using ht)
    (encodeRecon_lossless ..)]
  simp

theorem decode_encodeRecon_wht (p : Params) (bdsel : BitVec 2) (eob : BitVec 11) :
    decode p (encodeRecon eob bdsel 1#1 .dctDct .s4) = .ok (.reconWht bdsel eob) := by
  rw [decode_recon p (encodeRecon_opc ..), decodeRecon_wht (encodeRecon_reserved ..) (encodeRecon_lossless ..)
    (encodeRecon_type ..) (encodeRecon_size ..)]
  simp

theorem decode_encodeKern (p : Params) (k : KernelId) (bdsel : BitVec 2) :
    decode p (encodeKern k bdsel) = .ok (k.instr bdsel) := by
  rw [decode_kern p (encodeKern_opc ..), decodeKern_kernel (k := k) (encodeKern_high ..) (encodeKern_low ..) (by simp)]
  simp

theorem decode_encodeGetscan (p : Params) (sz : TxSize) (chroma isInter lossless : Bool) (mode : BitVec 4) :
    decode p (encodeGetscan sz chroma isInter lossless mode) = .ok (.getscan sz chroma isInter lossless mode) := by
  rw [decode_getscan p (encodeGetscan_opc ..), decodeGetscan_ok (encodeGetscan_reserved ..)]
  simp

theorem decode_encodeScanlookup (p : Params) (sz : TxSize) (kind : BitVec 2) (pos : BitVec 11) :
    decode p (encodeScanpos 5#4 sz kind pos) = .ok (.scanlookup sz kind pos) := by
  rw [decode_scanlookup p (encodeScanpos_opc ..), decodeScanpos_ok _ (encodeScanpos_reserved ..)]
  simp

theorem decode_encodeCtx (p : Params) (sz : TxSize) (kind : BitVec 2) (pos : BitVec 11) :
    decode p (encodeScanpos 6#4 sz kind pos) = .ok (.ctx sz kind pos) := by
  rw [decode_ctx p (encodeScanpos_opc ..), decodeScanpos_ok _ (encodeScanpos_reserved ..)]
  simp

/-- Settles O2: format by format, the fields of the encoded word are the operands, its reserved bits are clear and its
opcode picks the format. -/
theorem decodeOfEncode : Obligations.DecodeOfEncode := by
  intro p
  refine ⟨fun t sz bdsel eob ht => ?_, decode_encodeRecon_wht p, fun k bdsel => ?_, rfl, decode_encodeGetscan p,
    decode_encodeScanlookup p, decode_encodeCtx p⟩
  · rw [encode_recon, decode_encodeRecon_lossy ht]
  · rw [encode_kern, decode_encodeKern]

/-- On an engine with the extended types every command exists, so every command's word decodes to it. -/
theorem decode_encode_of_extTx {p : Params} (hp : p.extTx = true) (i : Instr) : decode p (encode i) = .ok i := by
  obtain ⟨hrecon, hwht, hkern, hinit, hgetscan, hscanlookup, hctx⟩ := decodeOfEncode p
  cases i using Instr.of_families with
  | recon t sz bdsel eob => exact hrecon t sz bdsel eob (fun _ => hp)
  | wht => exact hwht ..
  | kern => exact hkern ..
  | init => exact hinit
  | getscan => exact hgetscan ..
  | scanlookup => exact hscanlookup ..
  | ctx => exact hctx ..

/-- Settles O1: the lines assemble and the commands encode as the table says, and the words decode by the round trip. -/
theorem workedEncodings : Obligations.WorkedEncodings := by
  intro row hrow
  obtain ⟨hasm, henc⟩ : assemble row.1 row.2.1 = some row.2.2.2 ∧ encode row.2.2.2 = row.2.2.1 := by
    revert row
    decide
  exact ⟨hasm, henc, henc ▸ decode_encode_of_extTx rfl _⟩

/-! ## A word that decodes is the word of its command -/

/-- Two neighbouring fields of a word are one longer field. -/
theorem field_append (w : Word) {hi lo a b : Nat} (h : hi = lo + a) :
    field w hi b ++ field w lo a = field w lo (b + a) :=
  BitVec.extractLsb'_append_extractLsb'_eq_extractLsb' h

/-- The whole word as a field. -/
theorem field_whole (w : Word) : field w 0 32 = w := BitVec.extractLsb'_eq_self

/-- A one-bit field. -/
theorem ofBool_getLsbD (w : Word) (k : Nat) : BitVec.ofBool (w.getLsbD k) = field w k 1 := by
  apply BitVec.eq_of_getLsbD_eq
  intro i hi
  simp [field, Nat.lt_one_iff.1 hi]

/-- A word of opcode 1 with its reserved bits clear is the F_RECON word of its fields (R102). -/
theorem encodeRecon_fields {w : Word} (hopc : field w 0 4 = 1#4) (hres : field w 24 8 = 0#8) :
    encodeRecon (field w 13 11) (field w 11 2) (field w 10 1) (TxType.ofField (field w 6 4))
      (TxSize.ofField (field w 4 2)) = w := by
  rw [encodeRecon, TxType.toField_ofField, TxSize.toField_ofField, ← hres, ← hopc]
  simp only [field_append]
  exact field_whole w

/-- A word of opcode 2 with its reserved bits clear and a KID that names a kernel is the F_KERN word of its fields
(R103). -/
theorem encodeKern_fields {w : Word} (hopc : field w 0 4 = 2#4) (hhigh : field w 13 19 = 0#19)
    (hlow : field w 9 2 = 0#2) {k : KernelId} (hk : KernelId.ofField (field w 4 5) = some k) :
    encodeKern k (field w 11 2) = w := by
  rw [encodeKern, KernelId.toField_of_ofField hk, ← hhigh, ← hlow, ← hopc]
  simp only [field_append]
  exact field_whole w

/-- A word of opcode 3 with its reserved bits clear is the F_NONE word (R112). -/
theorem encodeInit_fields {w : Word} (hopc : field w 0 4 = 3#4) (hres : field w 4 28 = 0#28) : encode .init = w := by
  rw [encode, ← hres, ← hopc]
  simp only [field_append]
  exact field_whole w

/-- A word of opcode 4 with its reserved bits clear is the F_GETSCAN word of its fields (R110). -/
theorem encodeGetscan_fields {w : Word} (hopc : field w 0 4 = 4#4) (hres : field w 13 19 = 0#19) :
    encodeGetscan (TxSize.ofField (field w 4 2)) (w.getLsbD 6) (w.getLsbD 7) (w.getLsbD 8) (field w 9 4) = w := by
  rw [encodeGetscan, TxSize.toField_ofField, ← hres, ← hopc]
  simp only [ofBool_getLsbD, field_append]
  exact field_whole w

/-- A word with the reserved bits of F_SCANPOS clear is the F_SCANPOS word of its fields (R111). -/
theorem encodeScanpos_fields {w : Word} {opc : BitVec 4} (hopc : field w 0 4 = opc) (hres : field w 19 13 = 0#13) :
    encodeScanpos opc (TxSize.ofField (field w 4 2)) (field w 6 2) (field w 8 11) = w := by
  rw [encodeScanpos, TxSize.toField_ofField, ← hres, ← hopc]
  simp only [field_append]
  exact field_whole w

theorem encode_of_decodeRecon {p : Params} {w : Word} {i : Instr} (hopc : field w 0 4 = 1#4)
    (h : decodeRecon p w = .ok i) : encode i = w := by
  by_cases hres : field w 24 8 = 0#8
  · have hword := encodeRecon_fields hopc hres
    by_cases htype : TypeOk p (TxType.ofField (field w 6 4))
    · rcases bit1_cases (field w 10 1) with hl | hl
      · cases (decodeRecon_lossy hres htype hl).symm.trans h
        rwa [encode_recon, ← hl]
      · by_cases hwht : field w 6 4 = 0#4 ∧ field w 4 2 = 0#2
        · obtain ⟨ht, hsz⟩ := hwht
          cases (decodeRecon_wht hres hl ht hsz).symm.trans h
          rwa [hl, ht, hsz] at hword
        · cases (decodeRecon_losslessIllegal hres htype hl hwht).symm.trans h
    · cases (decodeRecon_badTxType hres htype).symm.trans h
  · cases (decodeRecon_reserved p hres).symm.trans h

theorem encode_of_decodeKern {w : Word} {i : Instr} (hopc : field w 0 4 = 2#4) (h : decodeKern w = .ok i) :
    encode i = w := by
  by_cases hres : field w 13 19 ≠ 0#19 ∨ field w 9 2 ≠ 0#2
  · cases (decodeKern_reserved hres).symm.trans h
  · obtain ⟨hhigh, hlow⟩ : field w 13 19 = 0#19 ∧ field w 9 2 = 0#2 := by simpa using hres
    cases hk : KernelId.ofField (field w 4 5) with
    | none => cases (decodeKern_badKernel hhigh hlow hk).symm.trans h
    | some k =>
      cases (decodeKern_kernel hhigh hlow hk).symm.trans h
      rw [encode_kern, encodeKern_fields hopc hhigh hlow hk]

theorem encode_of_decodeInit {w : Word} {i : Instr} (hopc : field w 0 4 = 3#4) (h : decodeInit w = .ok i) :
    encode i = w := by
  by_cases hres : field w 4 28 = 0#28
  · cases (decodeInit_ok hres).symm.trans h
    exact encodeInit_fields hopc hres
  · cases (decodeInit_reserved hres).symm.trans h

theorem encode_of_decodeGetscan {w : Word} {i : Instr} (hopc : field w 0 4 = 4#4) (h : decodeGetscan w = .ok i) :
    encode i = w := by
  by_cases hres : field w 13 19 = 0#19
  · cases (decodeGetscan_ok hres).symm.trans h
    exact encodeGetscan_fields hopc hres
  · cases (decodeGetscan_reserved hres).symm.trans h

/-- F_SCANPOS, for either command `mk` whose opcode the word has. -/
theorem encode_of_decodeScanpos {w : Word} {i : Instr} {mk : TxSize → BitVec 2 → BitVec 11 → Instr}
    (hmk : ∀ sz kind pos, encode (mk sz kind pos) = encodeScanpos (field w 0 4) sz kind pos)
    (h : decodeScanpos w mk = .ok i) : encode i = w := by
  by_cases hres : field w 19 13 = 0#13
  · cases (decodeScanpos_ok mk hres).symm.trans h
    rw [hmk, encodeScanpos_fields rfl hres]
  · cases (decodeScanpos_reserved mk hres).symm.trans h

/-- Settles O3: the opcode picks the format, and each format's decoder keeps every field of the word. -/
theorem encodeOfDecode : Obligations.EncodeOfDecode := by
  intro p w i h
  rcases opcode_cases (field w 0 4) with (hopc | hopc | hopc | hopc | hopc | hopc) | hopc
  · exact encode_of_decodeRecon hopc ((decode_recon p hopc).symm.trans h)
  · exact encode_of_decodeKern hopc ((decode_kern p hopc).symm.trans h)
  · exact encode_of_decodeInit hopc ((decode_init p hopc).symm.trans h)
  · exact encode_of_decodeGetscan hopc ((decode_getscan p hopc).symm.trans h)
  · exact encode_of_decodeScanpos (by simp [hopc]) ((decode_scanlookup p hopc).symm.trans h)
  · exact encode_of_decodeScanpos (by simp [hopc]) ((decode_ctx p hopc).symm.trans h)
  · cases (decode_reservedOpcode p hopc).symm.trans h

/-! ## The rows of the opcode table -/

/-- The word of every command matches the command's row (R114). -/
theorem opRow_matches_encode (i : Instr) : (opRow i).matches (encode i) = true := by
  cases i using Instr.of_families with
  | recon t sz bdsel eob => simpa using Laws.TableRow.recon t sz bdsel eob
  | wht => exact Laws.TableRow.reconWht ..
  | kern k bdsel => simpa using Laws.TableRow.kern k bdsel
  | init => exact Laws.TableRow.init
  | getscan => exact Laws.TableRow.getscan ..
  | scanlookup => exact Laws.TableRow.scanlookup ..
  | ctx => exact Laws.TableRow.ctx ..

/-- The rows of the table are the rows of the commands. -/
theorem mem_opTable {r : OpRow} : r ∈ opTable ↔ ∃ i, opRow i = r := by
  constructor
  · intro h
    simp only [opTable, opTableRecon, opTableKern, List.mem_append, List.mem_map, List.mem_cons, List.not_mem_nil,
      or_false] at h
    rcases h with ((⟨t, -, rfl⟩ | rfl) | ⟨k, -, rfl⟩) | rfl | rfl | rfl | rfl
    · exact ⟨t.instr .s4 0#2 0#11, opRow_recon ..⟩
    · exact ⟨.reconWht 0#2 0#11, rfl⟩
    · exact ⟨k.instr 0#2, opRow_kern ..⟩
    · exact ⟨.init, rfl⟩
    · exact ⟨.getscan .s4 false false false 0#4, rfl⟩
    · exact ⟨.scanlookup .s4 0#2 0#11, rfl⟩
    · exact ⟨.ctx .s4 0#2 0#11, rfl⟩
  · rintro ⟨i, rfl⟩
    cases i using Instr.of_families with
    | recon t => rw [opRow_recon]; cases t <;> decide
    | kern k => rw [opRow_kern]; cases k <;> decide
    | wht | init | getscan | scanlookup | ctx => simp [opTable, opRow]

theorem opTable_nodup : opTable.Nodup := by decide

/-- A word that matches a row has the row's bits in every field the row's mask covers. -/
theorem OpRow.field_of_matches {mask value w : Word} (h : OpRow.matches (mask, value) w = true) (lo len : Nat)
    (hmask : field mask lo len = BitVec.allOnes len) : field w lo len = field value lo len := by
  have h : w &&& mask = value := beq_iff_eq.1 h
  have hand : field (w &&& mask) lo len = field w lo len &&& field mask lo len := BitVec.extractLsb'_and
  rw [← h, hand, hmask, BitVec.and_allOnes]

/-- A word that matches the row of a RECON type is the word of a RECON of that type. -/
theorem encodeRecon_of_matches {w : Word} {t : TxType} (h : (opRowRecon t).matches w = true) :
    encodeRecon (field w 13 11) (field w 11 2) 0#1 t (TxSize.ofField (field w 4 2)) = w := by
  rw [opRowRecon] at h
  have hopc : field w 0 4 = 1#4 := (OpRow.field_of_matches h 0 4 rfl).trans (by cases t <;> rfl)
  have ht : field w 6 4 = t.toField := (OpRow.field_of_matches h 6 4 rfl).trans (by cases t <;> rfl)
  have hl : field w 10 1 = 0#1 := (OpRow.field_of_matches h 10 1 rfl).trans (by cases t <;> rfl)
  have hres : field w 24 8 = 0#8 := (OpRow.field_of_matches h 24 8 rfl).trans (by cases t <;> rfl)
  have hword := encodeRecon_fields hopc hres
  rwa [hl, ht, TxType.ofField_toField] at hword

/-- A word that matches the row of a kernel is the word of a KERN1D of that kernel. -/
theorem encodeKern_of_matches {w : Word} {k : KernelId} (h : (opRowKern k).matches w = true) :
    encodeKern k (field w 11 2) = w := by
  rw [opRowKern] at h
  have hopc : field w 0 4 = 2#4 := (OpRow.field_of_matches h 0 4 rfl).trans (by cases k <;> rfl)
  have hk : field w 4 5 = k.toField := (OpRow.field_of_matches h 4 5 rfl).trans (by cases k <;> rfl)
  have hlow : field w 9 2 = 0#2 := (OpRow.field_of_matches h 9 2 rfl).trans (by cases k <;> rfl)
  have hhigh : field w 13 19 = 0#19 := (OpRow.field_of_matches h 13 19 rfl).trans (by cases k <;> rfl)
  exact encodeKern_fields hopc hhigh hlow (by rw [hk, KernelId.ofField_toField])

/-- A word that matches the row of RECON.WHT is the word of a RECON.WHT. -/
theorem encodeRecon_wht_of_matches {w : Word} (h : OpRow.matches (0xFF0007FF#32, 0x00000401#32) w = true) :
    encodeRecon (field w 13 11) (field w 11 2) 1#1 .dctDct .s4 = w := by
  have hsz : field w 4 2 = 0#2 := OpRow.field_of_matches h 4 2 rfl
  have ht : field w 6 4 = 0#4 := OpRow.field_of_matches h 6 4 rfl
  have hl : field w 10 1 = 1#1 := OpRow.field_of_matches h 10 1 rfl
  have hword := encodeRecon_fields (OpRow.field_of_matches h 0 4 rfl) (OpRow.field_of_matches h 24 8 rfl)
  rwa [hsz, ht, hl] at hword

/-- A word that matches a command's row is the word of a command of that row. -/
theorem exists_encode_of_matches {w : Word} (i : Instr) (h : (opRow i).matches w = true) :
    ∃ j, encode j = w ∧ opRow j = opRow i := by
  cases i using Instr.of_families with
  | recon t =>
    rw [opRow_recon] at h ⊢
    exact ⟨t.instr _ _ _, (encode_recon ..).trans (encodeRecon_of_matches h), opRow_recon ..⟩
  | wht => exact ⟨.reconWht _ _, (encode_wht ..).trans (encodeRecon_wht_of_matches h), rfl⟩
  | kern k =>
    rw [opRow_kern] at h ⊢
    exact ⟨k.instr _, (encode_kern ..).trans (encodeKern_of_matches h), opRow_kern ..⟩
  | init =>
    exact ⟨.init, encodeInit_fields (OpRow.field_of_matches h 0 4 rfl) (OpRow.field_of_matches h 4 28 rfl), rfl⟩
  | getscan =>
    have hword := encodeGetscan_fields (OpRow.field_of_matches h 0 4 rfl) (OpRow.field_of_matches h 13 19 rfl)
    exact ⟨.getscan _ _ _ _ _, (encode_getscan ..).trans hword, rfl⟩
  | scanlookup =>
    have hword := encodeScanpos_fields (OpRow.field_of_matches h 0 4 rfl) (OpRow.field_of_matches h 19 13 rfl)
    exact ⟨.scanlookup _ _ _, (encode_scanlookup ..).trans hword, rfl⟩
  | ctx =>
    have hword := encodeScanpos_fields (OpRow.field_of_matches h 0 4 rfl) (OpRow.field_of_matches h 19 13 rfl)
    exact ⟨.ctx _ _ _, (encode_ctx ..).trans hword, rfl⟩

/-- Two commands have two words: on an engine with the extended types each word decodes to its own command. -/
theorem encode_injective : Function.Injective encode := by
  intro i j h
  have hp : Config.params.extTx = true := rfl
  exact Except.ok.inj ((decode_encode_of_extTx hp i).symm.trans (h ▸ decode_encode_of_extTx hp j))

/-- No word matches two rows: it would be the word of a command of each. -/
theorem opRow_unique {w : Word} {i i' : Instr} (h : (opRow i).matches w = true) (h' : (opRow i').matches w = true) :
    opRow i = opRow i' := by
  obtain ⟨j, hw, hj⟩ := exists_encode_of_matches i h
  obtain ⟨j', hw', hj'⟩ := exists_encode_of_matches i' h'
  rw [← hj, ← hj', encode_injective (hw.trans hw'.symm)]

/-- The rows that match the word of a command are its own row only. -/
theorem opTable_filter_encode (i : Instr) : opTable.filter (fun r => r.matches (encode i)) = [opRow i] := by
  have hmatch : ∀ r ∈ opTable, r.matches (encode i) = (r == opRow i) := by
    intro r hr
    obtain ⟨j, rfl⟩ := mem_opTable.1 hr
    rw [Bool.eq_iff_iff, beq_iff_eq]
    exact ⟨fun h => opRow_unique h (opRow_matches_encode i), fun h => h ▸ opRow_matches_encode i⟩
  rw [List.filter_congr hmatch, List.filter_beq, List.count_eq_one_of_mem opTable_nodup (mem_opTable.2 ⟨i, rfl⟩)]
  rfl

/-- Settles O4: a word that decodes is the word of its command (O3), which matches one row; a word that matches a row is
the word of a command, which decodes on an engine with the extended types. -/
theorem oneTableRow : Obligations.OneTableRow := by
  refine ⟨fun p w i h => ?_, fun p w hp ⟨r, hr, hm⟩ => ?_⟩
  · rw [← encodeOfDecode p w i h]
    exact opTable_filter_encode i
  · obtain ⟨i, rfl⟩ := mem_opTable.1 hr
    obtain ⟨j, rfl, -⟩ := exists_encode_of_matches i hm
    exact ⟨j, decode_encode_of_extTx hp j⟩

/-! ## Words that name no command -/

/-- A word the decoder refuses raises its cause on an engine that is not faulted (R301). -/
theorem runWord_faults {s : State} {w : Word} {c : Cause} (hf : s.fault = none) (h : decode s.params w = .error c) :
    runWord w s = .next { s with fault := some c, faultCmd := w } := by
  rw [runWord_of_decode_error h, raise_of_none hf]

/-- Settles O5: each of the reserved forms is refused by its format's decoder. -/
theorem reservedWordsFault : Obligations.ReservedWordsFault := by
  intro s w hf h
  refine runWord_faults hf ?_
  rcases h with h | h | ⟨ho, h⟩ | ⟨ho, h⟩ | ⟨ho, h⟩ | ⟨ho, h⟩ | ⟨ho | ho, h⟩
  · exact decode_reservedOpcode _ (.inl h)
  · exact decode_reservedOpcode _ (.inr h)
  · exact (decode_recon _ ho).trans (decodeRecon_reserved _ h)
  · exact (decode_kern _ ho).trans (decodeKern_reserved h)
  · exact (decode_init _ ho).trans (decodeInit_reserved h)
  · exact (decode_getscan _ ho).trans (decodeGetscan_reserved h)
  · exact (decode_scanlookup _ ho).trans (decodeScanpos_reserved _ h)
  · exact (decode_ctx _ ho).trans (decodeScanpos_reserved _ h)

/-- The type a TXTYPE names exists exactly below 4 or with the extended types (R105). -/
theorem typeOk_ofField {p : Params} {f : BitVec 4} : TypeOk p (TxType.ofField f) ↔ f.toNat < 4 ∨ p.extTx = true := by
  rw [TypeOk, TxType.extended_ofField, imp_iff_not_or, not_le]

/-- Settles O6: the three refusals of the F_RECON and F_KERN decoders past their reserved bits. -/
theorem unnamedWordsFault : Obligations.UnnamedWordsFault := by
  intro s w hf
  refine ⟨fun ho hres ht hext => ?_, fun ho hres ht hl hother => ?_, fun ho hhigh hlow hk => ?_⟩
  · refine runWord_faults hf ((decode_recon _ ho).trans (decodeRecon_badTxType hres ?_))
    rw [typeOk_ofField, hext]
    simpa using ht
  · refine runWord_faults hf ((decode_recon _ ho).trans (decodeRecon_losslessIllegal hres (typeOk_ofField.2 ht) hl ?_))
    exact not_and_or.2 hother
  · exact runWord_faults hf ((decode_kern _ ho).trans
      (decodeKern_badKernel hhigh hlow ((KernelId.ofField_eq_none _).2 hk)))

/-! ## Commands with an illegal field -/

/-- The causes of the field-value checks (R115). -/
def fieldCauses : List Cause :=
  [.badTxType, .badBitDepth, .eobRange, .losslessIllegal, .badIntraMode, .badScanKind, .posRange]

/-- A command's operation ends in a field-value check. -/
def FailsFieldCheck {α : Type} (r : Except Cause α) : Prop := ∃ c ∈ fieldCauses, r = .error c

/-- A sequence that begins with a field check of cause `d` fails a field check if what follows does wherever that check
passes. -/
theorem failsFieldCheck_bind {α β : Type} {x : Except Cause α} {f : α → Except Cause β} {d : Cause}
    (hd : d ∈ fieldCauses) (herror : ∀ c, x = .error c → c = d) (hok : ∀ a, x = .ok a → FailsFieldCheck (f a)) :
    FailsFieldCheck (x >>= f) := by
  cases x with
  | error c => exact ⟨c, herror c rfl ▸ hd, rfl⟩
  | ok a => exact hok a rfl

/-- The check of LOSSLESS in GETSCAN passes for the well-formed values only. -/
theorem checkLosslessScan_ok {lossless : Bool} {sz : TxSize} :
    checkLosslessScan lossless sz = .ok () ↔ (!lossless || sz == .s4) = true := by
  unfold checkLosslessScan
  cases lossless <;> simp

/-- The check of LOSSLESS in GETSCAN has one cause. -/
theorem checkLosslessScan_error {lossless : Bool} {sz : TxSize} {c : Cause}
    (h : checkLosslessScan lossless sz = .error c) : c = .losslessIllegal := by
  unfold checkLosslessScan at h
  split at h <;> cases h
  rfl

/-- The MODE check passes for the well-formed values only. -/
theorem checkMode_ok {isInter : Bool} {mode : BitVec 4} {m : Option IntraMode} (h : checkMode isInter mode = .ok m) :
    (isInter || decide (mode.toNat < 10)) = true := by
  cases isInter with
  | true => rfl
  | false =>
    refine decide_eq_true (Nat.lt_of_not_le fun hmode => ?_)
    simp [checkMode, (IntraMode.ofField_eq_none mode).2 hmode] at h

/-- The MODE check has one cause. -/
theorem checkMode_error {isInter : Bool} {mode : BitVec 4} {c : Cause} (h : checkMode isInter mode = .error c) :
    c = .badIntraMode := by
  unfold checkMode at h
  split at h
  · cases h
  · split at h <;> cases h
    rfl

/-- A RECON.<TxType> with an illegal field fails one of its first three checks (R203). -/
theorem runRecon_illFormed {t : TxType} {sz : TxSize} {bdsel : BitVec 2} {eob : BitVec 11} {s : State}
    (h : reconOk s.params t sz bdsel eob = false) : FailsFieldCheck (runRecon t sz bdsel eob s) := by
  refine failsFieldCheck_bind (by decide) (fun _ h => (checkTxType_error.1 h).2) (fun _ ht => ?_)
  refine failsFieldCheck_bind (by decide) (fun _ h => (checkBitDepth_error.1 h).2) (fun bd hb => ?_)
  refine failsFieldCheck_bind (by decide) (fun _ h => (checkEob_error.1 h).2) (fun _ he => ?_)
  rw [reconOk, checkTxType_ok.1 ht, (checkBitDepth_ok.1 hb).1, checkEob_ok.1 he] at h
  cases h

/-- A RECON.WHT with an illegal field fails one of its first two checks (R203). -/
theorem runWht_illFormed {bdsel : BitVec 2} {eob : BitVec 11} {s : State}
    (h : (bdselOk s.params bdsel && eobOk .s4 eob) = false) : FailsFieldCheck (runWht bdsel eob s) := by
  refine failsFieldCheck_bind (by decide) (fun _ h => (checkBitDepth_error.1 h).2) (fun bd hb => ?_)
  refine failsFieldCheck_bind (by decide) (fun _ h => (checkEob_error.1 h).2) (fun _ he => ?_)
  rw [(checkBitDepth_ok.1 hb).1, checkEob_ok.1 he] at h
  cases h

/-- A KERN1D with an illegal BDSEL fails its first check (R144). -/
theorem runKernel_illFormed {size : Nat} {K : Nat → Vec → Vec} {bdsel : BitVec 2} {s : State}
    (h : bdselOk s.params bdsel = false) : FailsFieldCheck (runKernel size K bdsel s) := by
  refine failsFieldCheck_bind (by decide) (fun _ h => (checkBitDepth_error.1 h).2) (fun bd hb => ?_)
  rw [(checkBitDepth_ok.1 hb).1] at h
  cases h

/-- A GETSCAN with an illegal field fails one of its first two checks (R268). -/
theorem runGetscan_illFormed {sz : TxSize} {chroma isInter lossless : Bool} {mode : BitVec 4} {s : State}
    (h : ((!lossless || sz == .s4) && (isInter || decide (mode.toNat < 10))) = false) :
    FailsFieldCheck (runGetscan sz chroma isInter lossless mode s) := by
  refine failsFieldCheck_bind (by decide) (fun _ => checkLosslessScan_error) (fun _ hl => ?_)
  refine failsFieldCheck_bind (by decide) (fun _ => checkMode_error) (fun m hm => ?_)
  rw [checkLosslessScan_ok.1 hl, checkMode_ok hm] at h
  cases h

/-- The KIND and POS checks, which SCANLOOKUP and CTX begin with, fail for an illegal field whatever follows them (R270,
R271). -/
theorem scanpos_illFormed {sz : TxSize} {kind : BitVec 2} {pos : BitVec 11} {β : Type}
    {f : ScanId → Nat → Except Cause β} (h : (kindOk sz kind && posOk sz pos) = false) :
    FailsFieldCheck (checkScan sz kind >>= fun id => checkPos sz pos >>= f id) := by
  refine failsFieldCheck_bind (by decide) (fun _ h => (checkScan_error.1 h).2) (fun id hid => ?_)
  refine failsFieldCheck_bind (by decide) (fun _ h => (checkPos_error.1 h).2) (fun n hn => ?_)
  rw [checkScan_isOk.1 ⟨id, hid⟩, (checkPos_ok.1 hn).1] at h
  cases h

theorem wellFormed_recon (p : Params) (t : TxType) (sz : TxSize) (bdsel : BitVec 2) (eob : BitVec 11) :
    (t.instr sz bdsel eob).WellFormed p = reconOk p t sz bdsel eob := by
  cases t <;> rfl

theorem wellFormed_kern (p : Params) (k : KernelId) (bdsel : BitVec 2) :
    (k.instr bdsel).WellFormed p = bdselOk p bdsel := by
  cases k <;> rfl

/-- A command with an illegal field is concluded with the cause of a field check. -/
theorem exec_illFormed (i : Instr) {s : State} (h : i.WellFormed s.params = false) :
    ∃ r, FailsFieldCheck r ∧ exec i s = conclude i s r := by
  cases i using Instr.of_families with
  | recon t sz bdsel eob =>
    rw [wellFormed_recon] at h
    exact ⟨_, runRecon_illFormed h, exec_recon ..⟩
  | wht => exact ⟨_, runWht_illFormed h, rfl⟩
  | kern k bdsel =>
    rw [wellFormed_kern] at h
    exact ⟨_, runKernel_illFormed h, exec_kern ..⟩
  | init => cases h
  | getscan => exact ⟨_, runGetscan_illFormed h, rfl⟩
  | scanlookup => exact ⟨_, scanpos_illFormed h, rfl⟩
  | ctx => exact ⟨_, scanpos_illFormed h, rfl⟩

/-- Settles O15: `exec_illFormed`, and what ContractViolation does on an engine that is not faulted. -/
theorem illFormedCommandsFault : Obligations.IllFormedCommandsFault := by
  intro i s hf h
  obtain ⟨r, ⟨c, hc, rfl⟩, hexec⟩ := exec_illFormed i h
  exact ⟨c, hc, by rw [hexec, conclude_error, raise_of_none hf]⟩

/-! ## The fields of SCAN_SEL -/

/-- A SCAN_SEL value shifted left by 4 is the TXSZ and KIND fields of F_SCANPOS (R111, R269). -/
theorem encodeScanpos_scanSel (opc : BitVec 4) (sz : TxSize) (kind : ScanKind) (pos : BitVec 11) :
    encodeScanpos opc sz kind.toField pos =
      (pos.setWidth 32 <<< 8) ||| ((scanSelWord kind sz).setWidth 32 <<< 4) ||| opc.setWidth 32 := by
  apply BitVec.eq_of_getLsbD_eq
  intro i hi
  rw [encodeScanpos_getLsbD, scanSelWord]
  simp only [BitVec.getLsbD_append, BitVec.getLsbD_or, BitVec.getLsbD_shiftLeft, BitVec.getLsbD_setWidth]
  interval_cases i <;> simp

/-- Settles O7: `encodeScanpos_scanSel` at the opcodes of SCANLOOKUP and CTX. -/
theorem scanSelFormsFields : Obligations.ScanSelFormsFields := fun sz kind pos =>
  ⟨encodeScanpos_scanSel 5#4 sz kind pos, encodeScanpos_scanSel 6#4 sz kind pos⟩

end Sys2Proof.Machine
end

section
/-!
PROOFS. The one-dimensional kernels (41_kernels R140 to R158). Every KERN1D is one operation (`exec_kern_ready` and its
two traps). IDCT8, IDCT16 and IDCT32 have one shape, `EvenOddSplit`: a last stage of butterflies over the kernel of half
the size on the even inputs and a term of the odd inputs.
-/

namespace Sys2Proof.Machine

/-! ## What a KERN1D does -/

/-- What VOUT reads as after a kernel's output is stored: the output in lanes 0 to N - 1, the other lanes as before. -/
theorem read_writeAll_laneWrites (m : Memory 32) (size : Nat) (y : Vec) (j : Nat) :
    (m.writeAll (laneWrites size y)).read j = if j < size then some (BitVec.ofInt 32 (y.at j)) else m.read j := by
  split
  · next hj => exact Memory.read_writeAll_mem _ m (by simp [List.nodup_range]) (mem_laneWrites hj)
  · next hj => exact Memory.read_writeAll_other _ m (by simpa using hj)

/-- A KERN1D with a supported bit depth and its lanes written completes, and stores the kernel's output in VOUT
(R144). -/
theorem exec_kern_ready {k : KernelId} {bdsel : BitVec 2} {bd : BitDepth} {s : State} (hb : DepthOk s.params bdsel bd)
    (hv : ∀ j < k.size, s.vin.read j ≠ none) :
    exec (k.instr bdsel) s = .next { s with vout := s.vout.writeAll (laneWrites k.size
      (kernel k (wrapBits s.params bd) ((List.range k.size).map (laneInt s (wrapBits s.params bd))))) } := by
  have hlanes := Memory.readAll_of_written (m := s.vin) (fun j hj => hv j (List.mem_range.1 hj))
  rw [exec_kern, runKernel_ok.2 ⟨bd, _, checkBitDepth_of_depthOk hb, hlanes, rfl⟩, wrapWords_lanes, conclude_ok]

/-- Settles O28: the operation of `exec_kern_ready`, and what VOUT reads as after it. -/
theorem kernelCommandRuns : Obligations.KernelCommandRuns := by
  intro k bdsel bd s hb hv
  refine ⟨_, exec_kern_ready hb hv, fun j hj => ?_, fun j hj => ?_⟩
  · rw [read_writeAll_laneWrites, if_pos hj]
  · rw [read_writeAll_laneWrites, if_neg (Nat.not_lt.2 hj)]

/-- BDSEL is illegal at 3, and at 1 and 2 on an engine without HBD (R106). -/
theorem bdselOk_eq_false {p : Params} {bdsel : BitVec 2} :
    bdselOk p bdsel = false ↔ bdsel = 3#2 ∨ (bdsel ≠ 0#2 ∧ p.hbd = false) := by
  simp [bdselOk, and_comm, or_iff_not_imp_left]

section
variable {size : Nat} {K : Nat → Vec → Vec} {bdsel : BitVec 2} {s : State}

/-- The first check of a KERN1D is the one of BDSEL (R144). -/
theorem runKernel_badBitDepth (h : bdselOk s.params bdsel = false) :
    runKernel size K bdsel s = .error .badBitDepth := by
  rw [runKernel, checkBitDepth_error.2 ⟨h, rfl⟩]
  rfl

/-- The second check of a KERN1D is the one of its lanes (R144). -/
theorem runKernel_unwritten {bd : BitDepth} (hb : DepthOk s.params bdsel bd) (hv : ∃ j < size, s.vin.read j = none) :
    runKernel size K bdsel s = .error .unwritten := by
  have hnone : s.vin.readAll (List.range size) = none := by
    obtain ⟨j, hj, hread⟩ := hv
    rw [← Option.not_isSome_iff_eq_none, Memory.readAll_isSome]
    exact fun h => h j (List.mem_range.2 hj) hread
  rw [runKernel, checkBitDepth_of_depthOk hb, kernelInput, hnone]
  rfl

end

/-- Settles O29: the two checks of a KERN1D, and what ContractViolation does on an engine that is not faulted. -/
theorem kernelCommandTraps : Obligations.KernelCommandTraps := by
  refine fun k bdsel s hf => ⟨fun h => ?_, fun bd hb hv => ?_⟩
  · rw [exec_kern, runKernel_badBitDepth (bdselOk_eq_false.2 h), conclude_error, raise_of_none hf]
  · rw [exec_kern, runKernel_unwritten hb hv, conclude_error, raise_of_none hf]

/-! ## The identity kernels -/

/-- A KERN1D whose kernel applies `f` to each lane by itself stores `f` of each wrapped lane. -/
theorem kernelCommand_lanewise (k : KernelId) (f : Nat → Int → Int)
    (hk : ∀ n X, kernel k n X = (List.range k.size).map (fun i => f n (X.at i))) {bdsel : BitVec 2} {bd : BitDepth}
    {s : State} (hb : DepthOk s.params bdsel bd) (hv : ∀ j < k.size, s.vin.read j ≠ none) :
    ∃ m : Memory 32, exec (k.instr bdsel) s = .next { s with vout := m } ∧
      ∀ j < k.size, m.read j =
        some (BitVec.ofInt 32 (f (wrapBits s.params bd) (laneInt s (wrapBits s.params bd) j))) := by
  obtain ⟨m, hexec, hlanes, -⟩ := kernelCommandRuns k bdsel bd s hb hv
  refine ⟨m, hexec, fun j hj => ?_⟩
  rw [hlanes j hj, hk, Vec.at_map_range _ _ _ hj, Vec.at_map_range _ _ _ hj]

/-- Settles O30: the four identity kernels work lane by lane. -/
theorem identityKernels : Obligations.IdentityKernels := fun _ _ _ hb =>
  ⟨kernelCommand_lanewise .iidtx4 (fun n x => W n (R (x * 23170))) (fun _ _ => rfl) hb,
    kernelCommand_lanewise .iidtx8 (fun n x => W n (x * 2)) (fun _ _ => rfl) hb,
    kernelCommand_lanewise .iidtx16 (fun n x => W n (R (x * 2 * 23170))) (fun _ _ => rfl) hb,
    kernelCommand_lanewise .iidtx32 (fun n x => W n (x * 4)) (fun _ _ => rfl) hb⟩

/-! ## Vectors -/

/-- The first lanes of a vector. -/
theorem Vec.map_at_range_eq_take {X : Vec} {N : Nat} (h : N ≤ X.length) : (List.range N).map X.at = X.take N := by
  apply List.ext_getElem
  · simp [h]
  · intro i hi _
    have hiX : i < X.length := Nat.lt_of_lt_of_le (by simpa using hi) h
    simp [Vec.at, hiX]

/-- The last lanes of a vector. -/
theorem Vec.map_at_range_eq_drop {X : Vec} {M N : Nat} (h : X.length = M + N) :
    (List.range N).map (fun i => X.at (M + i)) = X.drop M := by
  apply List.ext_getElem
  · simp [h]
  · intro i hi _
    have hiX : M + i < X.length := h ▸ Nat.add_lt_add_left (by simpa using hi) M
    simp [Vec.at, hiX]

/-- Settles O31: the two halves of IHALFRIGHT32, each a map over half of the lanes. -/
theorem halfRightComposition : Obligations.HalfRightComposition := by
  intro n X hX
  have hfirst : (List.range 16).map (fun i => W n (R (X.at i * SQRT2))) =
      (X.take 16).map (fun x => W n (R (x * 23170))) := by
    rw [← Vec.map_at_range_eq_take (by omega), List.map_map]
    rfl
  have hlast : (List.range 16).map (fun i => W n (X.at (16 + i) * 4)) = (X.drop 16).map (fun x => W n (x * 4)) := by
    rw [← Vec.map_at_range_eq_drop (N := 16) hX, List.map_map]
    rfl
  have hidct : ∀ Y, (List.range 16).map (fun i => (idct16 n Y).at i) = idct16 n Y := fun Y =>
    Vec.map_at_range_eq_take (X := idct16 n Y) (Nat.le_refl 16)
  rw [ihalfright32, hfirst, hlast, hidct]
  exact ⟨List.take_left' (by simp [hX]), List.drop_left' (by simp [hX])⟩

/-- The even lanes of a vector of `2 * N` lanes. -/
def Vec.evens (N : Nat) (X : Vec) : Vec := (List.range N).map (fun k => X.at (2 * k))

/-- The odd lanes of a vector of `2 * N` lanes. -/
def Vec.odds (N : Nat) (X : Vec) : Vec := (List.range N).map (fun k => X.at (2 * k + 1))

/-- The vector of `2 * N` lanes with given odd lanes and zeros in its even lanes. -/
def Vec.ofOdds (N : Nat) (O : Vec) : Vec := (List.range (2 * N)).map (fun k => if k % 2 = 1 then O.at (k / 2) else 0)

@[simp] theorem Vec.at_replicate_zero (N k : Nat) : Vec.at (List.replicate N 0) k = 0 := by
  rcases Nat.lt_or_ge k N with hk | hk <;> simp [Vec.at, hk]

theorem Vec.at_replicate {N i : Nat} (x : Int) (h : i < N) : Vec.at (List.replicate N x) i = x := by
  simp [Vec.at, h]

/-- Lanes of the first part of a vector. -/
theorem Vec.at_take {X : Vec} {N i : Nat} (h : i < N) : Vec.at (X.take N) i = X.at i := by
  simp [Vec.at, h]

/-- Lanes of the last part of a vector. -/
theorem Vec.at_drop (X : Vec) (N i : Nat) : Vec.at (X.drop N) i = X.at (N + i) := by
  simp [Vec.at]

/-- Vectors that agree from a lane on agree in each lane past it. -/
theorem Vec.at_eq_of_drop_eq {X Y : Vec} {N i : Nat} (h : X.drop N = Y.drop N) (hi : N ≤ i) : X.at i = Y.at i := by
  obtain ⟨j, rfl⟩ := Nat.exists_eq_add_of_le hi
  rw [← Vec.at_drop, h, Vec.at_drop]

theorem Vec.at_evens (X : Vec) {N k : Nat} (h : k < N) : Vec.at (Vec.evens N X) k = X.at (2 * k) :=
  Vec.at_map_range _ _ _ h

/-- The odd lanes of a vector put back in their places. -/
theorem Vec.at_ofOdds_odds (X : Vec) {N k : Nat} (h : k < 2 * N) (hk : k % 2 = 1) :
    Vec.at (Vec.ofOdds N (Vec.odds N X)) k = X.at k := by
  rw [ofOdds, Vec.at_map_range _ _ _ h, if_pos hk, odds, Vec.at_map_range _ _ _ (by omega)]
  congr 1
  omega

/-- The even lanes of a DC-only vector are a DC-only vector. -/
theorem Vec.evens_dcOnly {N : Nat} (hN : 0 < N) (M : Nat) (c : Int) :
    Vec.evens N (c :: List.replicate M 0) = c :: List.replicate (N - 1) 0 := by
  obtain ⟨N, rfl⟩ := Nat.exists_eq_add_one.2 hN
  have hlane : ∀ k, Vec.at (c :: List.replicate M 0) (2 * (k + 1)) = 0 := fun k => at_replicate_zero M (2 * k + 1)
  rw [evens, List.range_succ_eq_map, List.map_cons, List.map_map]
  exact congrArg₂ List.cons rfl (by simp [Function.comp_def, hlane])

/-- The odd lanes of a DC-only vector are zeros. -/
theorem Vec.odds_dcOnly (N M : Nat) (c : Int) : Vec.odds N (c :: List.replicate M 0) = List.replicate N 0 := by
  have hlane : ∀ k, Vec.at (c :: List.replicate M 0) (2 * k + 1) = 0 := fun k => at_replicate_zero M (2 * k)
  simp [odds, hlane]

@[simp] theorem Vec.odds_replicate_zero (N M : Nat) : Vec.odds N (List.replicate M 0) = List.replicate N 0 := by
  simp [odds]

/-! ## The shape of IDCT8, IDCT16 and IDCT32 -/

/-- The last stage of an IDCT of `2 * N` lanes: the sums of its halves' lanes, then their differences (R147 to R149). -/
def butterfly (n N : Nat) (a : Vec) : Vec :=
  (List.range N).map (fun i => W n (a.at i + a.at (2 * N - 1 - i))) ++
    (List.range N).map (fun i => W n (a.at (N - 1 - i) - a.at (N + i)))

theorem butterfly_length (n N : Nat) (a : Vec) : (butterfly n N a).length = 2 * N := by
  simp [butterfly, two_mul]

/-- The first half of the outputs. -/
theorem butterfly_at_sum (n : Nat) {N i : Nat} (a : Vec) (hi : i < N) :
    (butterfly n N a).at i = W n (a.at i + a.at (2 * N - 1 - i)) := by
  simp [butterfly, Vec.at, List.getElem?_append, hi]

/-- The second half of the outputs, from the last one back. -/
theorem butterfly_at_difference (n : Nat) {N i : Nat} (a : Vec) (hi : i < N) :
    (butterfly n N a).at (2 * N - 1 - i) = W n (a.at i - a.at (2 * N - 1 - i)) := by
  obtain ⟨j, hj⟩ : ∃ j, N = i + 1 + j := Nat.exists_eq_add_of_le hi
  have hlane : 2 * N - 1 - i = N + j := by omega
  have hmirror : N - 1 - j = i := by omega
  have hjN : j < N := by omega
  rw [hlane]
  simp [butterfly, Vec.at, hmirror, hjN]

/-- Butterflies on `N` lanes of `x` and `N` zeros. -/
theorem butterfly_of_constant_zero (n : Nat) {N : Nat} {a : Vec} {x : Int} (hlower : ∀ i < N, a.at i = x)
    (hupper : ∀ i, N ≤ i → a.at i = 0) : butterfly n N a = List.replicate (2 * N) (W n x) := by
  refine List.eq_replicate_iff.2 ⟨butterfly_length n N a, fun y hy => ?_⟩
  rcases List.mem_append.1 hy with hy | hy
  · obtain ⟨i, hi, rfl⟩ := List.mem_map.1 hy
    rw [List.mem_range] at hi
    rw [hlower i hi, hupper _ (by omega), add_zero]
  · obtain ⟨i, hi, rfl⟩ := List.mem_map.1 hy
    rw [List.mem_range] at hi
    rw [hlower _ (by omega), hupper _ (Nat.le_add_right N i), sub_zero]

/-- An IDCT `K` of `2 * N` lanes is butterflies over lanes `pre`, of which the first half is the kernel `half` on the
even inputs and the second half depends on the odd inputs alone, and is zero with them. -/
structure EvenOddSplit (N : Nat) (half K pre : Nat → Vec → Vec) : Prop where
  eq_butterfly : ∀ n X, K n X = butterfly n N (pre n X)
  even : ∀ n X, (pre n X).take N = half n (Vec.evens N X)
  odd : ∀ n X, (pre n X).drop N = (pre n (Vec.ofOdds N (Vec.odds N X))).drop N
  zero : ∀ n, pre n (List.replicate (2 * N) 0) = List.replicate (2 * N) 0

namespace EvenOddSplit

variable {N : Nat} {half K pre : Nat → Vec → Vec} (h : EvenOddSplit N half K pre)
include h

theorem pre_at_even (n : Nat) (X : Vec) {i : Nat} (hi : i < N) : (pre n X).at i = (half n (Vec.evens N X)).at i := by
  rw [← h.even, Vec.at_take hi]

/-- The odd term is read off the input with its even lanes cleared. -/
theorem pre_at_odd (n : Nat) (X : Vec) {i : Nat} (hi : N ≤ i) :
    (pre n X).at i = (pre n (Vec.ofOdds N (Vec.odds N X))).at i :=
  Vec.at_eq_of_drop_eq (h.odd n X) hi

/-- Each output pair is the half's lane plus and minus the odd term. -/
theorem output_pairs : ∃ odd : Nat → Vec → Nat → Int, ∀ n X i, i < N → ∀ E, E = half n (Vec.evens N X) →
    ∀ o, o = odd n (Vec.odds N X) i →
    (K n X).at i = W n (E.at i + o) ∧ (K n X).at (2 * N - 1 - i) = W n (E.at i - o) := by
  refine ⟨fun n O i => (pre n (Vec.ofOdds N O)).at (2 * N - 1 - i), ?_⟩
  rintro n X i hi E rfl o rfl
  rw [h.eq_butterfly, butterfly_at_sum n _ hi, butterfly_at_difference n _ hi, h.pre_at_even n X hi,
    h.pre_at_odd n X (by omega)]
  exact ⟨rfl, rfl⟩

/-- On a DC-only input the half's lanes are those of a DC-only input, and the odd term is that of zeros. -/
theorem dcOnly {n : Nat} {c x : Int} (hN : 0 < N)
    (hhalf : half n (c :: List.replicate (N - 1) 0) = List.replicate N x) :
    K n (c :: List.replicate (2 * N - 1) 0) = List.replicate (2 * N) (W n x) := by
  rw [h.eq_butterfly]
  refine butterfly_of_constant_zero n (fun i hi => ?_) (fun i hi => ?_)
  · rw [h.pre_at_even n _ hi, Vec.evens_dcOnly hN, hhalf, Vec.at_replicate x hi]
  · rw [h.pre_at_odd n _ hi, Vec.odds_dcOnly, ← Vec.odds_replicate_zero N (2 * N), ← h.pre_at_odd n _ hi, h.zero,
      Vec.at_replicate_zero]

end EvenOddSplit

/-- The lanes of a stage's output from `N` on depend on the lanes of its input from `N` on alone. -/
def UpperAlone (N : Nat) (F : Vec → Vec) : Prop :=
  ∀ {v w : Vec}, v.drop N = w.drop N → (F v).drop N = (F w).drop N

/-- A stage `F` that works on the two parts of its input apart, as `f` on the first `N` lanes. -/
structure SplitsAt (N : Nat) (f F : Vec → Vec) : Prop where
  lower : ∀ v, (F v).take N = f (v.take N)
  upper : UpperAlone N F

/-- Stages that split the same way follow each other so. -/
theorem SplitsAt.comp {N : Nat} {f F g G : Vec → Vec} (hg : SplitsAt N g G) (hf : SplitsAt N f F) :
    SplitsAt N (g ∘ f) (G ∘ F) :=
  ⟨fun v => by rw [Function.comp_apply, hg.lower, hf.lower, Function.comp_apply], fun h => hg.upper (hf.upper h)⟩

/-! ### IDCT8 -/

/-- IDCT8 before its last stage (R147). -/
def idct8Pre (n : Nat) (X : Vec) : Vec := idct8Stage3 n (idct8Stage2 n X (idct8Stage1 n X))

theorem idct8Pre_even (n : Nat) (X : Vec) : (idct8Pre n X).take 4 = idct4 n (Vec.evens 4 X) := by
  simp [idct8Pre, idct8Stage2, idct8Stage3, idct4, Vec.evens, Vec.at]

theorem idct8Pre_odd (n : Nat) (X : Vec) :
    (idct8Pre n X).drop 4 = (idct8Pre n (Vec.ofOdds 4 (Vec.odds 4 X))).drop 4 := by
  have hstage1 : idct8Stage1 n X = idct8Stage1 n (Vec.ofOdds 4 (Vec.odds 4 X)) := by
    simp [idct8Stage1, Vec.at_ofOdds_odds]
  simp [idct8Pre, hstage1, idct8Stage2, idct8Stage3, Vec.at]

theorem idct8Pre_zero (n : Nat) : idct8Pre n (List.replicate 8 0) = List.replicate 8 0 := by
  simp [idct8Pre, idct8Stage1, idct8Stage2, idct8Stage3, Vec.at]

theorem idct8Stage4_eq_butterfly (n : Nat) (a : Vec) : idct8Stage4 n a = butterfly n 4 a := rfl

theorem idct8_eq_butterfly (n : Nat) (X : Vec) : idct8 n X = butterfly n 4 (idct8Pre n X) :=
  idct8Stage4_eq_butterfly n _

theorem idct8_split : EvenOddSplit 4 idct4 idct8 idct8Pre :=
  ⟨idct8_eq_butterfly, idct8Pre_even, idct8Pre_odd, idct8Pre_zero⟩

/-! ### IDCT16 -/

/-- IDCT16 before its last stage (R148). -/
def idct16Pre (n : Nat) (X : Vec) : Vec :=
  idct16Stage6 n (idct16Stage5 n (idct16Stage4 n (idct16Stage3 n (idct16Stage2 n (idct16Stage1 X)))))

/-- The first four stages bring the even inputs where IDCT8 has them after its first two. -/
theorem idct16Stages1to4_even (n : Nat) (X : Vec) :
    (idct16Stage4 n (idct16Stage3 n (idct16Stage2 n (idct16Stage1 X)))).take 8 =
      idct8Stage2 n (Vec.evens 8 X) (idct8Stage1 n (Vec.evens 8 X)) := by
  simp [idct16Stage1, idct16Stage2, idct16Stage3, idct16Stage4, idct8Stage1, idct8Stage2, Vec.evens, Vec.at]

theorem idct16Stage1_odd (X : Vec) :
    (idct16Stage1 X).drop 8 = (idct16Stage1 (Vec.ofOdds 8 (Vec.odds 8 X))).drop 8 := by
  simp [idct16Stage1, Vec.at_ofOdds_odds]

theorem idct16Stage2_upperAlone (n : Nat) : UpperAlone 8 (idct16Stage2 n) := fun h => by
  simp [idct16Stage2, Vec.at_eq_of_drop_eq h]

theorem idct16Stage3_upperAlone (n : Nat) : UpperAlone 8 (idct16Stage3 n) := fun h => by
  simp [idct16Stage3, Vec.at_eq_of_drop_eq h]

theorem idct16Stage4_upperAlone (n : Nat) : UpperAlone 8 (idct16Stage4 n) := fun h => by
  simp [idct16Stage4, Vec.at_eq_of_drop_eq h]

theorem idct16Stage5_splits (n : Nat) : SplitsAt 8 (idct8Stage3 n) (idct16Stage5 n) :=
  ⟨fun v => by simp [idct16Stage5, idct8Stage3, Vec.at_take],
    fun h => by simp [idct16Stage5, Vec.at_eq_of_drop_eq h]⟩

theorem idct16Stage6_splits (n : Nat) : SplitsAt 8 (idct8Stage4 n) (idct16Stage6 n) :=
  ⟨fun v => by simp [idct16Stage6, idct8Stage4, Vec.at_take],
    fun h => by simp [idct16Stage6, Vec.at_eq_of_drop_eq h]⟩

theorem idct16Pre_even (n : Nat) (X : Vec) : (idct16Pre n X).take 8 = idct8 n (Vec.evens 8 X) := by
  rw [idct16Pre, (idct16Stage6_splits n).lower, (idct16Stage5_splits n).lower, idct16Stages1to4_even, idct8]

theorem idct16Pre_odd (n : Nat) (X : Vec) :
    (idct16Pre n X).drop 8 = (idct16Pre n (Vec.ofOdds 8 (Vec.odds 8 X))).drop 8 :=
  (idct16Stage6_splits n).upper <| (idct16Stage5_splits n).upper <| idct16Stage4_upperAlone n <|
    idct16Stage3_upperAlone n <| idct16Stage2_upperAlone n <| idct16Stage1_odd X

theorem idct16Pre_zero (n : Nat) : idct16Pre n (List.replicate 16 0) = List.replicate 16 0 := by
  simp [idct16Pre, idct16Stage1, idct16Stage2, idct16Stage3, idct16Stage4, idct16Stage5, idct16Stage6, Vec.at]

theorem idct16Stage7_eq_butterfly (n : Nat) (a : Vec) : idct16Stage7 n a = butterfly n 8 a := rfl

theorem idct16_eq_butterfly (n : Nat) (X : Vec) : idct16 n X = butterfly n 8 (idct16Pre n X) :=
  idct16Stage7_eq_butterfly n _

theorem idct16_split : EvenOddSplit 8 idct8 idct16 idct16Pre :=
  ⟨idct16_eq_butterfly, idct16Pre_even, idct16Pre_odd, idct16Pre_zero⟩

/-! ### IDCT32 -/

/-- IDCT32 before its last stage (R149). -/
def idct32Pre (n : Nat) : Vec → Vec :=
  (idct32Stage7 n ∘ idct32Stage6 n ∘ idct32Stage5 n ∘ idct32Stage4 n ∘ idct32Stage3 n ∘ idct32Stage2 n) ∘
    idct32Stage1 n

theorem idct32Stage1_even (n : Nat) (X : Vec) : (idct32Stage1 n X).take 16 = idct16Stage1 (Vec.evens 16 X) := by
  simp [idct32Stage1, idct16Stage1, Vec.at_evens]

theorem idct32Stage1_odd (n : Nat) (X : Vec) :
    (idct32Stage1 n X).drop 16 = (idct32Stage1 n (Vec.ofOdds 16 (Vec.odds 16 X))).drop 16 := by
  simp [idct32Stage1, Vec.at_ofOdds_odds]

theorem idct32Stage2_splits (n : Nat) : SplitsAt 16 (idct16Stage2 n) (idct32Stage2 n) :=
  ⟨fun v => by simp [idct32Stage2, idct16Stage2, Vec.at_take],
    fun h => by simp [idct32Stage2, Vec.at_eq_of_drop_eq h]⟩

theorem idct32Stage3_splits (n : Nat) : SplitsAt 16 (idct16Stage3 n) (idct32Stage3 n) :=
  ⟨fun v => by simp [idct32Stage3, idct16Stage3, Vec.at_take],
    fun h => by simp [idct32Stage3, Vec.at_eq_of_drop_eq h]⟩

theorem idct32Stage4_splits (n : Nat) : SplitsAt 16 (idct16Stage4 n) (idct32Stage4 n) :=
  ⟨fun v => by simp [idct32Stage4, idct16Stage4, Vec.at_take],
    fun h => by simp [idct32Stage4, Vec.at_eq_of_drop_eq h]⟩

theorem idct32Stage5_splits (n : Nat) : SplitsAt 16 (idct16Stage5 n) (idct32Stage5 n) :=
  ⟨fun v => by simp [idct32Stage5, idct16Stage5, Vec.at_take],
    fun h => by simp [idct32Stage5, Vec.at_eq_of_drop_eq h]⟩

theorem idct32Stage6_splits (n : Nat) : SplitsAt 16 (idct16Stage6 n) (idct32Stage6 n) :=
  ⟨fun v => by simp [idct32Stage6, idct16Stage6, Vec.at_take],
    fun h => by simp [idct32Stage6, Vec.at_eq_of_drop_eq h]⟩

theorem idct32Stage7_splits (n : Nat) : SplitsAt 16 (idct16Stage7 n) (idct32Stage7 n) :=
  ⟨fun v => by simp [idct32Stage7, idct16Stage7, Vec.at_take],
    fun h => by simp [idct32Stage7, Vec.at_eq_of_drop_eq h]⟩

/-- Stages 2 to 7 of IDCT32 are those of IDCT16 on the first 16 lanes. -/
theorem idct32Stages2to7_split (n : Nat) :
    SplitsAt 16
      (idct16Stage7 n ∘ idct16Stage6 n ∘ idct16Stage5 n ∘ idct16Stage4 n ∘ idct16Stage3 n ∘ idct16Stage2 n)
      (idct32Stage7 n ∘ idct32Stage6 n ∘ idct32Stage5 n ∘ idct32Stage4 n ∘ idct32Stage3 n ∘ idct32Stage2 n) :=
  (idct32Stage7_splits n).comp <| (idct32Stage6_splits n).comp <| (idct32Stage5_splits n).comp <|
    (idct32Stage4_splits n).comp <| (idct32Stage3_splits n).comp <| idct32Stage2_splits n

theorem idct32Pre_even (n : Nat) (X : Vec) : (idct32Pre n X).take 16 = idct16 n (Vec.evens 16 X) := by
  rw [idct32Pre, Function.comp_apply, (idct32Stages2to7_split n).lower, idct32Stage1_even]
  simp only [Function.comp_apply, idct16]

theorem idct32Pre_odd (n : Nat) (X : Vec) :
    (idct32Pre n X).drop 16 = (idct32Pre n (Vec.ofOdds 16 (Vec.odds 16 X))).drop 16 :=
  (idct32Stages2to7_split n).upper (idct32Stage1_odd n X)

theorem idct32Pre_zero (n : Nat) : idct32Pre n (List.replicate 32 0) = List.replicate 32 0 := by
  simp [idct32Pre, idct32Stage1, idct32Stage2, idct32Stage3, idct32Stage4, idct32Stage5, idct32Stage6, idct32Stage7,
    Vec.at]

theorem idct32Stage8_eq_butterfly (n : Nat) (a : Vec) : idct32Stage8 n a = butterfly n 16 a := rfl

theorem idct32_eq_butterfly (n : Nat) (X : Vec) : idct32 n X = butterfly n 16 (idct32Pre n X) := by
  simp only [idct32, idct32Pre, Function.comp_apply, idct32Stage8_eq_butterfly]

theorem idct32_split : EvenOddSplit 16 idct16 idct32 idct32Pre :=
  ⟨idct32_eq_butterfly, idct32Pre_even, idct32Pre_odd, idct32Pre_zero⟩

/-- Settles O32: the output pairs of the three splits. -/
theorem evenHalves : Obligations.EvenHalves :=
  ⟨idct8_split.output_pairs, idct16_split.output_pairs, idct32_split.output_pairs⟩

/-! ## DC-only and zero inputs -/

theorem idct4_dcOnly (n : Nat) (c : Int) :
    idct4 n (c :: List.replicate 3 0) = List.replicate 4 (W n (R (c * 11585))) := by
  have hC : C 16 = 11585 := rfl
  simp [idct4, Vec.at, hC]

/-- Settles O35: IDCT4 by its definition, and each larger IDCT from the one of half its size. -/
theorem dcOnlyKernel : Obligations.DcOnlyKernel := by
  intro k hk n c
  have h4 := idct4_dcOnly n c
  have h8 := idct8_split.dcOnly (by decide) h4
  have h16 := idct16_split.dcOnly (by decide) h8
  have h32 := idct32_split.dcOnly (by decide) h16
  simp only [W_W] at h8 h16 h32
  simp only [List.mem_cons, List.not_mem_nil, or_false] at hk
  obtain rfl | rfl | rfl | rfl := hk
  · exact h4
  · exact h8
  · exact h16
  · exact h32

/-- An IDCT maps zeros to zeros: they are a DC-only input. -/
theorem idct_zero {k : KernelId} (hk : k ∈ [KernelId.idct4, .idct8, .idct16, .idct32]) (n : Nat) :
    kernel k n (List.replicate k.size 0) = List.replicate k.size 0 := by
  have hsize : k.size = k.size - 1 + 1 := by cases k <;> rfl
  have hdc := dcOnlyKernel k hk n 0
  rwa [← List.replicate_succ, ← hsize, zero_mul, R_zero, W_zero] at hdc

theorem iadst4_zero (n : Nat) : iadst4 n (List.replicate 4 0) = List.replicate 4 0 := by
  simp [iadst4, Vec.at]

theorem iadst8_zero (n : Nat) : iadst8 n (List.replicate 8 0) = List.replicate 8 0 := by
  simp [iadst8, iadst8Stage1, iadst8Stage2, iadst8Stage3, iadst8Stage4, iadst8Stage5, iadst8Stage6, iadst8Stage7,
    iadst8Stage8, Vec.at]

theorem iadst16_zero (n : Nat) : iadst16 n (List.replicate 16 0) = List.replicate 16 0 := by
  simp [iadst16, iadst16Stage1, iadst16Stage2, iadst16Stage3, iadst16Stage4, iadst16Stage5, iadst16Stage6,
    iadst16Stage7, iadst16Stage8, iadst16Stage9, Vec.at]

theorem ihalfright32_zero (n : Nat) : ihalfright32 n (List.replicate 32 0) = List.replicate 32 0 := by
  obtain ⟨hfirst, hlast⟩ := halfRightComposition n (List.replicate 32 0) List.length_replicate
  rw [← List.take_append_drop 16 (ihalfright32 n _), hfirst, hlast]
  have hidct : idct16 n (List.replicate 16 0) = List.replicate 16 0 := idct_zero (k := .idct16) (by decide) n
  simp [-List.reduceReplicate, hidct]

theorem iwht4_zero (n : Nat) : iwht4 n (List.replicate 4 0) = List.replicate 4 0 := by
  simp [iwht4, asr, Vec.at]

/-- Settles O33: the IDCTs by their DC-only case; every lane and every intermediate value of the others is zero. -/
theorem kernelsMapZeroToZero : Obligations.KernelsMapZeroToZero := by
  intro k n
  cases k with
  | idct4 | idct8 | idct16 | idct32 => exact idct_zero (by decide) n
  | iadst4 => exact iadst4_zero n
  | iadst8 => exact iadst8_zero n
  | iadst16 => exact iadst16_zero n
  | ihalfright32 => exact ihalfright32_zero n
  | iidtx4 | iidtx8 | iidtx16 | iidtx32 =>
    simp [kernel, iidtx4, iidtx8, iidtx16, iidtx32, KernelId.size, -List.reduceReplicate]
  | iwht4 => exact iwht4_zero n

/-! ## The range of the outputs -/

/-- A vector whose lanes are wrapped values. -/
def Wrapped (n : Nat) (v : Vec) : Prop := ∀ y ∈ v, W n y = y

theorem Wrapped.at {n : Nat} {v : Vec} (h : Wrapped n v) (i : Nat) : W n (v.at i) = v.at i := by
  rcases Nat.lt_or_ge i v.length with hi | hi
  · simpa [Vec.at, hi] using h v[i] (List.getElem_mem hi)
  · simp [Vec.at, hi]

theorem wrapped_map_range {n : Nat} {f : Nat → Int} (hf : ∀ i, W n (f i) = f i) (N : Nat) :
    Wrapped n ((List.range N).map f) := by
  simp [Wrapped, hf]

theorem Wrapped.append {n : Nat} {v w : Vec} (hv : Wrapped n v) (hw : Wrapped n w) : Wrapped n (v ++ w) := fun y hy =>
  (List.mem_append.1 hy).elim (hv y) (hw y)

theorem butterfly_wrapped (n N : Nat) (a : Vec) : Wrapped n (butterfly n N a) :=
  (wrapped_map_range (fun _ => W_W ..) N).append (wrapped_map_range (fun _ => W_W ..) N)

theorem EvenOddSplit.wrapped {N : Nat} {half K pre : Nat → Vec → Vec} (h : EvenOddSplit N half K pre) (n : Nat)
    (X : Vec) : Wrapped n (K n X) :=
  h.eq_butterfly n X ▸ butterfly_wrapped n N _

theorem iadst8Stage8_wrapped (n : Nat) (x : Vec) : Wrapped n (iadst8Stage8 n x) := by
  simp [Wrapped, iadst8Stage8]

theorem iadst16Stage9_wrapped (n : Nat) (x : Vec) : Wrapped n (iadst16Stage9 n x) := by
  simp [Wrapped, iadst16Stage9]

/-- Every kernel wraps its outputs last (R145). -/
theorem kernel_wrapped (k : KernelId) (n : Nat) (X : Vec) : Wrapped n (kernel k n X) := by
  cases k with
  | idct4 => simp [Wrapped, kernel, idct4]
  | idct8 => exact idct8_split.wrapped n X
  | idct16 => exact idct16_split.wrapped n X
  | idct32 => exact idct32_split.wrapped n X
  | iadst4 => simp [Wrapped, kernel, iadst4]
  | iadst8 => exact iadst8Stage8_wrapped n _
  | iadst16 => exact iadst16Stage9_wrapped n _
  | ihalfright32 =>
    rw [kernel, ihalfright32]
    exact (wrapped_map_range (fun _ => W_W ..) 16).append (wrapped_map_range (idct16_split.wrapped n _).at 16)
  | iidtx4 | iidtx8 | iidtx16 | iidtx32 => exact wrapped_map_range (fun _ => W_W ..) _
  | iwht4 => simp [Wrapped, kernel, iwht4]

/-- Settles O34: each output is its own wrap, which lies in the range of `W_lower` and `W_upper`. -/
theorem kernelOutputsInRange : Obligations.KernelOutputsInRange := by
  intro k n X hn y hy
  rw [← kernel_wrapped k n X y hy]
  exact ⟨W_lower hn y, W_upper hn y⟩

end Sys2Proof.Machine
end

section
/-!
PROOFS. Reconstruction (42_dispatch R200 to R226). A RECON whose operands are ready ends in `writeBack`, which stores one
sample in each cell of its destination block; `read_writeAll_blockWrites` says what PIX reads as after that. The samples
follow from the entries of the residuals, which `separable_eq_block` gives as one kernel run on one kernel's outputs.
-/

namespace Sys2Proof

theorem TxSize.side_pos (sz : TxSize) : 0 < sz.side := by cases sz <;> decide

end Sys2Proof

namespace Sys2Proof.Machine

/-! ## Blocks in raster order -/

/-- A cell's row and column can be read off its raster index. -/
theorem raster_div_mod {N c : Nat} (r : Nat) (hc : c < N) : (r * N + c) / N = r ∧ (r * N + c) % N = c :=
  (Nat.div_mod_unique (Nat.zero_lt_of_lt hc)).2 ⟨by rw [Nat.mul_comm, Nat.add_comm], hc⟩

/-- The row and the column of a raster index. -/
theorem raster_bounds {N k : Nat} (hk : k < N * N) : k / N < N ∧ k % N < N :=
  ⟨Nat.div_lt_of_lt_mul hk, Nat.mod_lt _ (Nat.pos_of_mul_pos_right (Nat.zero_lt_of_lt hk))⟩

/-- A block is given by its entries. -/
theorem block_congr {N : Nat} {f g : Nat → Nat → Int} (h : ∀ i < N, ∀ j < N, f i j = g i j) : block N f = block N g :=
  List.map_congr_left fun _ hk =>
    have ⟨hi, hj⟩ := raster_bounds (List.mem_range.1 hk)
    h _ hi _ hj

/-- A vector of `N * N` lanes is the block of its entries. -/
theorem block_cell {N : Nat} {X : Vec} (h : X.length = N * N) : block N (cell N X) = X := by
  have hlane : ∀ k, cell N X (k / N) (k % N) = X.at k := fun k => by rw [cell, Nat.div_add_mod']
  rw [block, List.map_congr_left fun k _ => hlane k, Vec.map_at_range_eq_take h.ge, ← h, List.take_length]

/-- Entry `[i][c]` of the separable transform is lane `i` of the column kernel on the lanes `c` of the row kernel's
outputs (R205). -/
theorem separable_eq_block (N : Nat) (rowK colK : Vec → Vec) (X : Vec) :
    separable N rowK colK X = block N (fun i c =>
      (colK ((List.range N).map (fun r => (rowK ((List.range N).map (fun c' => cell N X r c'))).at c))).at i) := by
  rw [separable]
  refine block_congr fun i _ c hc => ?_
  rw [← List.map_congr_left (l := List.range N) fun r hr =>
    congrArg (Vec.at · c) (rowPass_getD rowK X (List.mem_range.1 hr))]
  simp [colPass, hc]

/-- The same for a block given by its entries. -/
theorem separable_block (N : Nat) (rowK colK : Vec → Vec) (f : Nat → Nat → Int) :
    separable N rowK colK (block N f) = block N (fun i c =>
      (colK ((List.range N).map (fun r => (rowK ((List.range N).map (f r))).at c))).at i) := by
  have hrow : ∀ r ∈ List.range N, (List.range N).map (cell N (block N f) r) = (List.range N).map (f r) := fun r hr =>
    List.map_congr_left fun c hc => cell_block f (List.mem_range.1 hr) (List.mem_range.1 hc)
  rw [separable_eq_block]
  refine block_congr fun i _ c _ => ?_
  rw [List.map_congr_left fun r hr => by rw [hrow r hr]]

/-- The residual of the lossless path: IWHT4 on rows of the pre-shifted entries, then on columns (R226). -/
theorem whtResidual_block (n : Nat) (f : Nat → Nat → Int) :
    whtResidual n (block 4 f) = block 4 (fun i c =>
      (iwht4 n ((List.range 4).map (fun r => (iwht4 n ((List.range 4).map (fun c' => f r c' / 4))).at c))).at i) := by
  have hshift : block 4 (fun r c => asr (cell 4 (block 4 f) r c) UNIT_QUANT_SHIFT) = block 4 (fun r c => f r c / 4) :=
    block_congr fun r hr c hc => by rw [cell_block f hr hc]; rfl
  rw [whtResidual, hshift, separable_block]

/-! ## What the write-back does to PIX and COEF -/

/-- The cells of the block at DST_BASE with DST_STRIDE, each with the value of its raster index (R209, R211). -/
def blockWrites (sz : TxSize) (base stride : Word) (v : Nat → Sample) : List (Nat × Sample) :=
  (List.range sz.area).map (fun k => (blockAddr base stride (k / sz.side) (k % sz.side), v k))

section
variable {sz : TxSize} {base stride : Word}

/-- With a stride of at least N each cell is written once (R71). -/
theorem blockWrites_nodup (hwide : sz.side ≤ stride.toNat) (v : Nat → Sample) :
    ((blockWrites sz base stride v).map Prod.fst).Nodup := by
  rw [blockWrites, List.map_map]
  refine List.nodup_range.map_on fun k hk l hl h => ?_
  obtain ⟨-, hck⟩ := raster_bounds (List.mem_range.1 hk)
  obtain ⟨-, hcl⟩ := raster_bounds (List.mem_range.1 hl)
  obtain ⟨hrow, hcol⟩ := blockAddr_inj (hck.trans_le hwide) (hcl.trans_le hwide) h
  rw [← Nat.div_add_mod k sz.side, hrow, hcol, Nat.div_add_mod]

/-- A cell of the block reads as its value. -/
theorem read_writeAll_blockWrites (hwide : sz.side ≤ stride.toNat) (m : Memory 16) (v : Nat → Sample) {r c : Nat}
    (hr : r < sz.side) (hc : c < sz.side) :
    (m.writeAll (blockWrites sz base stride v)).read (blockAddr base stride r c) = some (v (r * sz.side + c)) := by
  obtain ⟨hdiv, hmod⟩ := raster_div_mod r hc
  refine Memory.read_writeAll_mem _ m (blockWrites_nodup hwide v) (c := (_, _)) (List.mem_map.2 ?_)
  exact ⟨r * sz.side + c, List.mem_range.2 (raster_lt hr hc), by rw [hdiv, hmod]; rfl⟩

/-- A cell outside the block reads as before. -/
theorem read_writeAll_blockWrites_other (m : Memory 16) (v : Nat → Sample) {a : Nat}
    (h : ∀ r < sz.side, ∀ c < sz.side, a ≠ blockAddr base stride r c) :
    (m.writeAll (blockWrites sz base stride v)).read a = m.read a := by
  refine Memory.read_writeAll_other _ m fun ha => ?_
  rw [blockWrites, List.map_map] at ha
  obtain ⟨k, hk, rfl⟩ := List.mem_map.1 ha
  obtain ⟨hr, hc⟩ := raster_bounds (List.mem_range.1 hk)
  exact h _ hr _ hc rfl

end

/-- A sample of R209 lies in `[0, maxPix]`: it is clipped, and the 16 bits of a cell do not cut it. -/
theorem reconSample_toNat_le (bd : BitDepth) (pred res : Int) : (reconSample bd pred res).toNat ≤ 2 ^ bd.bits - 1 := by
  have hlow : 0 ≤ clip (pred + res) 0 (maxPix bd) := by cases bd <;> simp [clip, maxPix, BitDepth.bits]
  have hhigh : clip (pred + res) 0 (maxPix bd) ≤ maxPix bd := min_le_right _ _
  rw [reconSample, BitVec.toNat_ofInt]
  cases bd <;> simp only [maxPix, BitDepth.bits] at hlow hhigh ⊢ <;> omega

section
variable {s : State} {sz : TxSize} {base stride : Word}

/-- The write-back when the premise of R211 holds: each cell gets the sample of R209 for its prediction and its entry of
the residual. -/
theorem writeBack_ready_true (h : BlockReady s sz base stride) (bd : BitDepth) (res : Vec) :
    ∃ (m : Memory 16) (cs : Memory 32),
      writeBack sz bd (readyInput s sz base stride) true res s = { s with pix := m, coef := cs } ∧
      ∀ i < sz.side, ∀ j < sz.side, m.read (blockAddr base stride i j) =
        some (reconSample bd (predInt s bd (blockAddr base stride i j)) (cell sz.side res i j)) := by
  refine ⟨s.pix.writeAll (blockWrites sz base stride fun k => reconSample bd
    (predValue bd ((readyInput s sz base stride).preds.getD k 0#16)) (res.at k)), _, rfl, fun i hi j hj => ?_⟩
  obtain ⟨hdiv, hmod⟩ := raster_div_mod i hj
  rw [read_writeAll_blockWrites h.wide _ _ hi hj, readyInput_pred bd (raster_lt hi hj), hdiv, hmod]
  rfl

/-- The write-back when it fails: each cell gets the draw of its raster index. -/
theorem writeBack_ready_false (h : BlockReady s sz base stride) (bd : BitDepth) (res : Vec) :
    ∃ (m : Memory 16) (cs : Memory 32),
      writeBack sz bd (readyInput s sz base stride) false res s =
        { s with pix := m, coef := cs, drawCount := s.drawCount + sz.area } ∧
      ∀ r < sz.side, ∀ c < sz.side, m.read (blockAddr base stride r c) =
        some (drawSample bd (s.drawCount + (r * sz.side + c))) :=
  ⟨s.pix.writeAll (blockWrites sz base stride fun k => drawSample bd (s.drawCount + k)), _, rfl, fun _ hr _ hc =>
    read_writeAll_blockWrites h.wide _ _ hr hc⟩

/-- Either way the write-back stores values of the bit depth in the block's cells and erases COEF[0..N²-1] (R209, R211,
R214). -/
theorem writeBack_ready_cases (bd : BitDepth) (premise : Bool) (res : Vec) :
    ∃ (v : Nat → Sample) (d : Nat),
      writeBack sz bd (readyInput s sz base stride) premise res s =
        { s with pix := s.pix.writeAll (blockWrites sz base stride v), coef := s.coef.eraseBelow sz.area, drawCount := d } ∧
      ∀ k, (v k).toNat ≤ 2 ^ bd.bits - 1 := by
  cases premise with
  | true => exact ⟨fun _ => reconSample .., s.drawCount, rfl, fun _ => reconSample_toNat_le ..⟩
  | false => exact ⟨fun _ => drawSample .., s.drawCount + sz.area, rfl, fun _ => drawSample_toNat_le ..⟩

end

/-- The 17 RECON: RECON.<TxType> of a type that exists, or RECON.WHT, which is 4x4 (R200, R226). -/
abbrev ReconCommand (p : Params) (sz : TxSize) (bdsel : BitVec 2) (eob : BitVec 11) (i : Instr) : Prop :=
  (∃ t, TypeOk p t ∧ i = t.instr sz bdsel eob) ∨ (sz = .s4 ∧ i = .reconWht bdsel eob)

/-- A RECON that passes its checks ends in its write-back, whichever of the 17 it is. -/
theorem exec_recon_writeBack {s : State} {sz : TxSize} {bdsel : BitVec 2} {bd : BitDepth} {eob : BitVec 11}
    {base stride : Word} {i : Instr}
    (hi : ReconCommand s.params sz bdsel eob i)
    (hb : DepthOk s.params bdsel bd) (he : eob.toNat ≤ sz.area) (h : BlockReady s sz base stride) :
    ∃ premise res, exec i s = .next (writeBack sz bd (readyInput s sz base stride) premise res s) := by
  obtain ⟨t, ht, rfl⟩ | ⟨rfl, rfl⟩ := hi
  · exact ⟨_, _, exec_recon_ready ht hb he h⟩
  · exact ⟨_, _, exec_wht_ready hb he h⟩

/-- Settles O37: the write-back, and what PIX and COEF read as after it. -/
theorem reconCompletes : Obligations.ReconCompletes := by
  intro s sz bdsel bd eob base stride i hi hb he h
  obtain ⟨premise, res, hexec⟩ := exec_recon_writeBack hi hb he h
  obtain ⟨v, d, hwrite, hv⟩ := writeBack_ready_cases (s := s) (sz := sz) (base := base) (stride := stride) bd premise res
  refine ⟨_, _, d, hexec.trans (congrArg _ hwrite), fun r hr c hc => ?_, fun a ha => ?_, fun k hk => ?_, fun k hk => ?_⟩
  · exact ⟨_, read_writeAll_blockWrites h.wide _ v hr hc, hv _⟩
  · exact read_writeAll_blockWrites_other _ v ha
  · rw [Memory.read_eraseBelow, if_pos hk]
  · rw [Memory.read_eraseBelow, if_neg (Nat.not_lt.2 hk)]

/-! ## The samples a RECON writes -/

/-- The wrapped coefficients a RECON works on, as a block (R204). -/
theorem coefs_eq_block (s : State) (sz : TxSize) (n : Nat) :
    (List.range sz.area).map (coefInt s n) = block sz.side (fun r c => coefInt s n (r * sz.side + c)) := by
  simp only [block, Nat.div_add_mod', TxSize.area]

/-- Every type but IDTX has the residual of the general path (R207, R210). -/
theorem reconResidual_general {t : TxType} (ht : t ≠ .idtx) (sz : TxSize) (n : Nat) (X : Vec) :
    reconResidual t sz n X = generalResidual t sz n X := by
  unfold reconResidual
  split
  · exact absurd rfl ht
  · rfl

/-- Only DCT_DCT has a premise on its coefficients (R211). -/
theorem eobPremise_of_ne {t : TxType} (ht : t ≠ .dctDct) (sz : TxSize) (eob : Nat) (X : Vec) :
    eobPremise t sz eob X = true := by
  unfold eobPremise
  split
  · exact absurd rfl ht
  · rfl

/-- Settles O38: the samples of the write-back, with the entries of the separable transform at the flipped indices. -/
theorem reconWritesTransform : Obligations.ReconWritesTransform := by
  rintro s t sz bdsel bd eob base stride hidtx ht hb he h hzero rowK colK rfl rfl
  have hpremise : eobPremise t sz eob.toNat ((List.range sz.area).map (coefInt s (wrapBits s.params bd))) = true := by
    by_cases hdct : t = .dctDct
    · subst hdct
      exact zonePremise_ready.2 (hzero rfl)
    · exact eobPremise_of_ne hdct ..
  obtain ⟨m, cs, hwrite, hm⟩ := writeBack_ready_true h bd
    (reconResidual t sz (wrapBits s.params bd) ((List.range sz.area).map (coefInt s (wrapBits s.params bd))))
  refine ⟨m, cs, ?_, fun i hi j hj => ?_⟩
  · rw [exec_recon_ready ht hb he h, hpremise, hwrite]
  · rw [hm i hi j hj, reconResidual_general hidtx, generalResidual, cell_block _ hi hj, coefs_eq_block, separable_block,
      cell_block _ (flipIndex_lt hi) (flipIndex_lt hj)]
    rfl

/-- Settles O39: the samples of the write-back, with the identity path's residual. -/
theorem reconIdtxWrites : Obligations.ReconIdtxWrites := by
  intro s sz bdsel bd eob base stride hext hb he h
  obtain ⟨m, cs, hwrite, hm⟩ := writeBack_ready_true h bd
    (reconResidual .idtx sz (wrapBits s.params bd) ((List.range sz.area).map (coefInt s (wrapBits s.params bd))))
  refine ⟨m, cs, ?_, fun i hi j hj => ?_⟩
  · exact (exec_recon_ready (t := .idtx) (fun _ => hext) hb he h).trans (congrArg _ hwrite)
  · have hshift : (2 : Int) ^ idtxShift sz = if sz = .s32 then 4 else 8 := by cases sz <;> rfl
    rw [hm i hi j hj, reconResidual, idtxResidual, cell_block _ hi hj, coefs_eq_block, cell_block _ hi hj, asr, hshift]
    rfl

/-- Settles O40: the samples of the write-back, with the residual of the lossless path. -/
theorem reconWhtWrites : Obligations.ReconWhtWrites := by
  rintro s bdsel bd eob base stride hb he h hzero K rfl
  obtain ⟨m, cs, hwrite, hm⟩ := writeBack_ready_true h bd
    (whtResidual (wrapBits s.params bd) ((List.range TxSize.s4.area).map (coefInt s (wrapBits s.params bd))))
  refine ⟨m, cs, ?_, fun i hi j hj => ?_⟩
  · exact (exec_wht_ready hb he h).trans (by rw [← hwrite, ← zonePremise_ready.2 hzero]; rfl)
  · rw [hm i hi j hj, coefs_eq_block, TxSize.side, whtResidual_block, cell_block _ hi hj]
    simp only [Nat.mul_comm 4]
    rfl

/-- Settles O41: the premise is false, and the write-back draws. -/
theorem brokenPremiseDraws : Obligations.BrokenPremiseDraws := by
  intro s sz bdsel bd eob base stride i hb he h hi
  obtain ⟨res, hexec⟩ : ∃ res, exec i s = .next (writeBack sz bd (readyInput s sz base stride) false res s) := by
    obtain ⟨rfl, hzero⟩ | ⟨rfl, rfl, hzero⟩ := hi
    · have hpremise := Bool.eq_false_iff.2 (mt zonePremise_ready.1 hzero)
      exact ⟨_, (exec_recon_ready (t := .dctDct) nofun hb he h).trans (by rw [eobPremise, hpremise])⟩
    · have hpremise := Bool.eq_false_iff.2 (mt zonePremise_ready.1 hzero)
      exact ⟨_, (exec_wht_ready hb he h).trans (by rw [← hpremise]; rfl)⟩
  obtain ⟨m, cs, hwrite, hm⟩ := writeBack_ready_false h bd res
  exact ⟨m, cs, hexec.trans (congrArg _ hwrite), hm⟩

/-- Settles O43: the eob reaches the write-back only in the premise of DCT_DCT. -/
theorem eobOnlyRangeChecked : Obligations.EobOnlyRangeChecked := by
  intro s t sz bdsel bd eob eob' base stride ht htype hb he he' h
  refine ⟨_, exec_recon_ready htype hb he h, ?_⟩
  rw [exec_recon_ready htype hb he' h, eobPremise_of_ne ht, eobPremise_of_ne ht]

/-! ## Where a RECON traps -/

/-- A list of cells with an unwritten one has no values. -/
theorem Memory.readAll_eq_none {w : Nat} {m : Memory w} {as : List Nat} {a : Nat} (ha : a ∈ as) (h : m.read a = none) :
    m.readAll as = none := by
  rw [← Option.not_isSome_iff_eq_none, Memory.readAll_isSome]
  exact fun hall => hall a ha h

/-- What the 17 RECON have in common: the checks of R203 on a type that exists, then what `finish` makes of the
bit depth and the operands. -/
def reconChecks (sz : TxSize) (bdsel : BitVec 2) (eob : BitVec 11) (finish : BitDepth → ReconInput → State)
    (s : State) : Except Cause State := do
  let bd ← checkBitDepth s.params bdsel
  checkEob sz eob
  let x ← reconInput sz s
  return finish bd x

/-- Each of the 17 RECON is its checks and what follows them. -/
theorem exec_recon_checks {s : State} {sz : TxSize} {bdsel : BitVec 2} {eob : BitVec 11} {i : Instr}
    (hi : ReconCommand s.params sz bdsel eob i) :
    ∃ finish, exec i s = conclude i s (reconChecks sz bdsel eob finish s) := by
  obtain ⟨t, ht, rfl⟩ | ⟨rfl, rfl⟩ := hi
  · refine ⟨fun bd x => writeBack sz bd x (eobPremise t sz eob.toNat (wrapWords (wrapBits s.params bd) x.coefs))
      (reconResidual t sz (wrapBits s.params bd) (wrapWords (wrapBits s.params bd) x.coefs)) s, ?_⟩
    rw [exec_recon, runRecon, checkTxType_of_typeOk ht]
    rfl
  · exact ⟨_, rfl⟩

section
variable {s : State} {sz : TxSize} {bdsel : BitVec 2} {bd : BitDepth} {eob : BitVec 11} {c : Cause}
  {finish : BitDepth → ReconInput → State}

/-- Check (1) on a type that does not exist (R203). -/
theorem runRecon_badTxType {t : TxType} (ht : ¬ TypeOk s.params t) : runRecon t sz bdsel eob s = .error .badTxType := by
  have hcheck : checkTxType s.params t = .error .badTxType := by
    simp only [Classical.not_imp, Bool.not_eq_true] at ht
    simp [checkTxType, ht]
  rw [runRecon, hcheck]
  rfl

/-- Check (2), of the bit depth (R203). -/
theorem reconChecks_badBitDepth (h : bdselOk s.params bdsel = false) :
    reconChecks sz bdsel eob finish s = .error .badBitDepth := by
  rw [reconChecks, checkBitDepth_error.2 ⟨h, rfl⟩]
  rfl

/-- Check (3), of the eob (R203). -/
theorem reconChecks_eobRange (hb : DepthOk s.params bdsel bd) (he : sz.area < eob.toNat) :
    reconChecks sz bdsel eob finish s = .error .eobRange := by
  rw [reconChecks, checkBitDepth_of_depthOk hb, checkEob, if_pos he]
  rfl

/-- With the first three checks passed, the operands decide (R203). -/
theorem reconChecks_of_reconInput_error (hb : DepthOk s.params bdsel bd) (he : eob.toNat ≤ sz.area)
    (hx : reconInput sz s = .error c) : reconChecks sz bdsel eob finish s = .error c := by
  rw [reconChecks, checkBitDepth_of_depthOk hb, checkEob, if_neg (Nat.not_lt.2 he), hx]
  rfl

theorem reconInput_of_checkDest_error (h : checkDest s sz = .error c) : reconInput sz s = .error c := by
  rw [reconInput, h]
  rfl

/-- Check (4), of the destination registers (R203). -/
theorem reconInput_dst_unwritten (h : s.dstBase = none ∨ s.dstStride = none) : reconInput sz s = .error .unwritten := by
  refine reconInput_of_checkDest_error ?_
  unfold checkDest
  split
  · simp_all
  · rfl

variable {base stride : Word} (hbase : s.dstBase = some base) (hstride : s.dstStride = some stride)
include hbase hstride

/-- Check (5), of the destination block (R203, R71). -/
theorem reconInput_dstRange
    (h : stride.toNat < sz.side ∨ s.params.pixSize ≤ blockAddr base stride (sz.side - 1) (sz.side - 1)) :
    reconInput sz s = .error .dstRange := by
  refine reconInput_of_checkDest_error ?_
  rw [checkDest, hbase, hstride]
  exact if_pos h

/-- Checks (6) and (7), of the coefficients and the prediction (R203). -/
theorem reconInput_unwritten (hwide : sz.side ≤ stride.toNat)
    (hpix : blockAddr base stride (sz.side - 1) (sz.side - 1) < s.params.pixSize)
    (h : (∃ k < sz.area, s.coef.read k = none) ∨
      ∃ r < sz.side, ∃ c < sz.side, s.pix.read (blockAddr base stride r c) = none) :
    reconInput sz s = .error .unwritten := by
  have hdest : checkDest s sz = .ok ⟨base.toNat, stride.toNat⟩ :=
    checkDest_ok.2 ⟨base, stride, hbase, hstride, rfl, hwide, hpix⟩
  have hnone : s.coef.readAll (List.range sz.area) = none ∨
      s.pix.readAll (destAddrs ⟨base.toNat, stride.toNat⟩ sz.side) = none := by
    refine h.imp (fun ⟨k, hk, hread⟩ => ?_) (fun ⟨r, hr, c, hc, hread⟩ => ?_)
    · exact Memory.readAll_eq_none (List.mem_range.2 hk) hread
    · obtain ⟨hdiv, hmod⟩ := raster_div_mod r hc
      refine Memory.readAll_eq_none (mem_destAddrs.2 ⟨r * sz.side + c, raster_lt hr hc, ?_⟩) hread
      rw [hdiv, hmod]
      rfl
  rw [reconInput, hdest]
  cases hcoef : s.coef.readAll (List.range sz.area) with
  | none => simp [coefInput, hcoef, bind, Except.bind]
  | some coefs =>
    have hpred := hnone.resolve_left (by simp [hcoef])
    simp [coefInput, predInput, hcoef, hpred, bind, Except.bind]

end

/-- Settles O42: each check of R203 in turn, and what ContractViolation does on an engine that is not faulted. -/
theorem reconTraps : Obligations.ReconTraps := by
  intro s sz bdsel eob i hf
  have htrap : ∀ {r c}, r = .error c → exec i s = conclude i s r →
      exec i s = .next { s with fault := some c, faultCmd := encode i } := fun hr hexec => by
    rw [hexec, hr, conclude_error, raise_of_none hf]
  refine ⟨fun t hi ht => htrap (runRecon_badTxType ht) (hi ▸ exec_recon ..), fun hi => ?_⟩
  obtain ⟨finish, hexec⟩ := exec_recon_checks hi
  refine ⟨fun h => htrap (reconChecks_badBitDepth (bdselOk_eq_false.2 h)) hexec, fun bd hb =>
    ⟨fun he => htrap (reconChecks_eobRange hb he) hexec, fun he => ?_⟩⟩
  have hoperands : ∀ {c}, reconInput sz s = .error c →
      exec i s = .next { s with fault := some c, faultCmd := encode i } := fun hx =>
    htrap (reconChecks_of_reconInput_error hb he hx) hexec
  exact ⟨fun h => hoperands (reconInput_dst_unwritten h), fun base stride hbase hstride =>
    ⟨fun h => hoperands (reconInput_dstRange hbase hstride h),
      fun hwide hpix h => hoperands (reconInput_unwritten hbase hstride hwide hpix h)⟩⟩

end Sys2Proof.Machine
end

section
/-!
PROOFS. The residuals (42_dispatch R207 to R217, R226): flips, the DC-only block, the partial path and the reach of the
lossless path.
-/

namespace Sys2Proof.Machine

/-! ## Flips -/

/-- `t'` is `t` without its flips (R201). -/
abbrev Unflipped (t t' : TxType) : Prop :=
  t ≠ .idtx ∧ t' ≠ .idtx ∧ rowClass t = rowClass t' ∧ columnClass t = columnClass t' ∧ flipUD t' = false ∧
    flipLR t' = false

/-- The residual of a type is that of its unflipped type at the flipped indices (R207, R208). -/
theorem cell_reconResidual_unflipped {t t' : TxType} (h : Unflipped t t') {sz : TxSize} (n : Nat) (X : Vec) {i j : Nat}
    (hi : i < sz.side) (hj : j < sz.side) :
    cell sz.side (reconResidual t sz n X) i j =
      cell sz.side (reconResidual t' sz n X) (flipIndex (flipUD t) sz.side i) (flipIndex (flipLR t) sz.side j) := by
  obtain ⟨ht, ht', hrow, hcol, hud, hlr⟩ := h
  rw [reconResidual_general ht, reconResidual_general ht', generalResidual, generalResidual, cell_block _ hi hj,
    cell_block _ (flipIndex_lt hi) (flipIndex_lt hj), hrow, hcol, hud, hlr]
  rfl

/-- Settles O45: each pair of R217 is a type and its unflipped type. -/
theorem flipSymmetry : Obligations.FlipSymmetry := fun _ n X _ _ hi hj =>
  ⟨cell_reconResidual_unflipped (t := .flipadstDct) (t' := .adstDct) (by decide) n X hi hj,
    cell_reconResidual_unflipped (t := .dctFlipadst) (t' := .dctAdst) (by decide) n X hi hj,
    cell_reconResidual_unflipped (t := .flipadstFlipadst) (t' := .adstAdst) (by decide) n X hi hj,
    cell_reconResidual_unflipped (t := .adstFlipadst) (t' := .adstAdst) (by decide) n X hi hj,
    cell_reconResidual_unflipped (t := .flipadstAdst) (t' := .adstAdst) (by decide) n X hi hj,
    cell_reconResidual_unflipped (t := .vFlipadst) (t' := .vAdst) (by decide) n X hi hj,
    cell_reconResidual_unflipped (t := .hFlipadst) (t' := .hAdst) (by decide) n X hi hj⟩

/-! ## The partial path -/

theorem classKernel_size (c : TxClass) (sz : TxSize) : (classKernel c sz).size = sz.side := by
  cases c <;> cases sz <;> rfl

/-- The kernel of every class and size maps zeros to zeros. -/
theorem classKernel_zero (c : TxClass) (sz : TxSize) (n : Nat) :
    kernel (classKernel c sz) n (List.replicate sz.side 0) = List.replicate sz.side 0 := by
  rw [← classKernel_size c sz, kernelsMapZeroToZero]

/-- Settles O47: a row of zeros below the zone is a row of zeros after the row kernel. -/
theorem partialPathIsFull : Obligations.PartialPathIsFull := by
  rintro sz n S X hzero K rfl
  have hrow : ∀ r ∈ List.range sz.side, ¬ r < S →
      kernel (classKernel .dct sz) n ((List.range sz.side).map (cell sz.side X r)) = List.replicate sz.side 0 := by
    intro r hr hS
    have hzeros : (List.range sz.side).map (cell sz.side X r) = List.replicate sz.side 0 :=
      List.eq_replicate_iff.2 ⟨by simp, fun y hy => by
        obtain ⟨c, hc, rfl⟩ := List.mem_map.1 hy
        exact hzero r (List.mem_range.1 hr) c (List.mem_range.1 hc) fun h => hS h.1⟩
    rw [hzeros, classKernel_zero]
  rw [separable_eq_block]
  refine block_congr fun i _ c _ => ?_
  congr 2
  refine List.map_congr_left fun r hr => ?_
  split
  · rfl
  · next hS => rw [hrow r hr hS, Vec.at_replicate_zero]

/-! ## The DC-only block -/

/-- A DC-only vector lane by lane. -/
theorem Vec.at_dcOnly (M k : Nat) (x : Int) : Vec.at (x :: List.replicate M 0) k = if k = 0 then x else 0 := by
  cases k with
  | zero => rfl
  | succ k => exact at_replicate_zero M k

/-- The DC-only vector of `N` lanes. -/
theorem Vec.map_range_dcOnly {N : Nat} (hN : 0 < N) (x : Int) :
    (List.range N).map (fun k => if k = 0 then x else 0) = x :: List.replicate (N - 1) 0 := by
  obtain ⟨N, rfl⟩ := Nat.exists_eq_add_one.2 hN
  simp [List.range_succ_eq_map, Function.comp_def]

/-- The DCT kernel of every size on a DC-only input (R147 to R149). -/
theorem dctKernel_dcOnly (sz : TxSize) (n : Nat) (c : Int) :
    kernel (classKernel .dct sz) n (c :: List.replicate (sz.side - 1) 0) =
      List.replicate sz.side (W n (R (c * 11585))) := by
  rw [← classKernel_size .dct sz]
  exact dcOnlyKernel _ (by cases sz <;> decide) n c

/-- The DCT kernel on both passes of a DC-only block: the DC row gives a DC-only vector in every column. -/
theorem separable_dcOnly (sz : TxSize) (n : Nat) (x : Int) :
    separable sz.side (kernel (classKernel .dct sz) n) (kernel (classKernel .dct sz) n)
        (x :: List.replicate (sz.area - 1) 0) =
      block sz.side (fun _ _ => W n (R (W n (R (x * 11585)) * 11585))) := by
  have hlength : (x :: List.replicate (sz.area - 1) 0).length = sz.side * sz.side := by
    rw [List.length_cons, List.length_replicate]
    cases sz <;> rfl
  have hentries : x :: List.replicate (sz.area - 1) 0 = block sz.side (fun r c => if r = 0 ∧ c = 0 then x else 0) := by
    rw [← block_cell hlength]
    exact block_congr fun r _ c _ => by simp [cell, Vec.at_dcOnly, sz.side_pos.ne']
  have hrow : ∀ c < sz.side, ∀ r, (kernel (classKernel .dct sz) n
      ((List.range sz.side).map (fun c' => if r = 0 ∧ c' = 0 then x else 0))).at c =
        if r = 0 then W n (R (x * 11585)) else 0 := by
    intro c hc r
    by_cases hr : r = 0
    · simp only [hr, true_and, if_true]
      rw [Vec.map_range_dcOnly sz.side_pos, dctKernel_dcOnly, Vec.at_replicate _ hc]
    · simp [hr, classKernel_zero]
  rw [hentries, separable_block]
  refine block_congr fun i hi c hc => ?_
  simp only [hrow c hc]
  rw [Vec.map_range_dcOnly sz.side_pos, dctKernel_dcOnly, Vec.at_replicate _ hi]

/-- Settles O46: the residual rounds the constant of `separable_dcOnly`; the twelve examples are evaluated. -/
theorem dcOnlyConstant : Obligations.DcOnlyConstant := by
  refine ⟨fun sz n x => ?_, by decide⟩
  have hconstant : ∀ c : Int, block sz.side (fun _ _ => c) = List.replicate sz.area c := fun c => by
    simp [block, TxSize.area]
  rw [← hconstant, reconResidual_general (t := .dctDct) nofun, generalResidual]
  refine block_congr fun i hi j hj => ?_
  rw [rowClass, columnClass, separable_dcOnly, cell_block _ (flipIndex_lt hi) (flipIndex_lt hj)]

/-! ## The reach of the lossless path -/

/-- Every lane of a vector lies in `[-M, M]`. -/
def Within (M : Int) (v : Vec) : Prop := ∀ y ∈ v, -M ≤ y ∧ y ≤ M

theorem Within.at {M : Int} {v : Vec} (h : Within M v) (hM : 0 ≤ M) (i : Nat) : -M ≤ v.at i ∧ v.at i ≤ M := by
  rcases Nat.lt_or_ge i v.length with hi | hi
  · simpa [Vec.at, hi] using h v[i] (List.getElem_mem hi)
  · simpa [Vec.at, hi] using hM

theorem within_map_range {M : Int} {f : Nat → Int} {N : Nat} (h : ∀ i < N, -M ≤ f i ∧ f i ≤ M) :
    Within M ((List.range N).map f) := by
  simpa [Within] using h

/-- A value in the range of the wrap is its own wrap (R14). -/
theorem W_eq_self {n : Nat} (h : 0 < n) {x : Int} (hlow : -(2 ^ (n - 1) : Int) ≤ x) (hhigh : x < 2 ^ (n - 1)) :
    W n x = x := by
  have hhalves := two_pow_half_add_half h
  refine Int.bmod_eq_of_le ?_ ?_ <;> push_cast <;> omega

/-- The forward transform of IWHT4: the butterfly of R158 run backwards. -/
def whtForward (y : Vec) : Vec :=
  let a := y.at 0 + y.at 1
  let d := y.at 3 - y.at 2
  let e := asr (a - d) 1
  let b := e - y.at 1
  let c := e - y.at 2
  [a - c, c, d + b, b]

/-- IWHT4 undoes it on lanes the wrap keeps. -/
theorem iwht4_whtForward {n : Nat} {f : Nat → Int} (hf : ∀ i < 4, W n (f i) = f i) :
    iwht4 n ((List.range 4).map (whtForward ((List.range 4).map f)).at) = (List.range 4).map f := by
  simp [iwht4, whtForward, Vec.at, List.range_succ, hf]

/-- The forward transform doubles the bound of the lanes at most. -/
theorem whtForward_within {M : Int} {y : Vec} (hM : 0 ≤ M) (hy : Within M y) : Within (2 * M) (whtForward y) := by
  have h0 := hy.at hM 0
  have h1 := hy.at hM 1
  have h2 := hy.at hM 2
  have h3 := hy.at hM 3
  simp only [Within, whtForward, asr, List.mem_cons, List.not_mem_nil, or_false, forall_eq_or_imp, forall_eq]
  omega

/-- The forward transform of column `c` of a residual, at row `r`. -/
def whtColumns (x : Vec) (r c : Nat) : Int := (whtForward ((List.range 4).map (fun i => cell 4 x i c))).at r

/-- The coefficients of a residual before their scale by 4: the forward transform on its columns, then on rows. -/
def whtCoefs (x : Vec) (r c : Nat) : Int := (whtForward ((List.range 4).map (whtColumns x r))).at c

theorem whtColumns_within {x : Vec} (hx : Within 255 x) (r c : Nat) :
    -510 ≤ whtColumns x r c ∧ whtColumns x r c ≤ 510 :=
  (whtForward_within (by decide) (within_map_range fun _ _ => hx.at (by decide) _)).at (by decide) r

theorem whtCoefs_within {x : Vec} (hx : Within 255 x) (r c : Nat) : -1020 ≤ whtCoefs x r c ∧ whtCoefs x r c ≤ 1020 :=
  (whtForward_within (M := 510) (by decide) (within_map_range fun _ _ => whtColumns_within hx r _)).at (by decide) c

/-- The lossless path on these coefficients gives the residual back: IWHT4 undoes the rows, then the columns. -/
theorem whtResidual_whtCoefs {x : Vec} (hlength : x.length = 16) (hx : Within 255 x) :
    whtResidual 16 (block 4 (fun r c => 4 * whtCoefs x r c)) = x := by
  have hcell : ∀ i c, W 16 (cell 4 x i c) = cell 4 x i c := fun i c => by
    obtain ⟨hlow, hhigh⟩ := hx.at (by decide) (i * 4 + c)
    exact W_eq_self (by decide) (hlow.trans' (by decide)) (hhigh.trans_lt (by decide))
  have hcolumns : ∀ r c, W 16 (whtColumns x r c) = whtColumns x r c := fun r c => by
    obtain ⟨hlow, hhigh⟩ := whtColumns_within hx r c
    exact W_eq_self (by decide) (hlow.trans' (by decide)) (hhigh.trans_lt (by decide))
  have hrows : ∀ r, iwht4 16 ((List.range 4).map (fun c => 4 * whtCoefs x r c / 4)) =
      (List.range 4).map (whtColumns x r) := fun r => by
    simp only [Int.mul_ediv_cancel_left _ (show (4 : Int) ≠ 0 by decide)]
    exact iwht4_whtForward fun c _ => hcolumns r c
  rw [whtResidual_block]
  calc
    _ = block 4 (cell 4 x) := block_congr fun i hi c hc => by
      have hcolumn : iwht4 16 ((List.range 4).map (fun r => whtColumns x r c)) =
          (List.range 4).map (fun i => cell 4 x i c) := iwht4_whtForward fun i _ => hcell i c
      simp only [hrows, Vec.at_map_range _ _ _ hc, hcolumn, Vec.at_map_range _ _ _ hi]
    _ = x := block_cell hlength

/-- Settles O48: four times the coefficients of `whtCoefs`, which stay within 4080. -/
theorem losslessReachesEveryResidual : Obligations.LosslessReachesEveryResidual := by
  intro x hlength hx
  refine ⟨block 4 (fun r c => 4 * whtCoefs x r c), block_length .., fun v hv => ?_, whtResidual_whtCoefs hlength hx⟩
  obtain ⟨k, -, rfl⟩ := List.mem_map.1 hv
  have hbound := whtCoefs_within hx (k / 4) (k % 4)
  dsimp only
  omega

end Sys2Proof.Machine
end

section
/-!
PROOFS. The tables BUILD makes (43_scan_context R261 to R265). BUILD's neighbours of a position are the scan positions of the
cells that the causality of R262 (3) asks for (`buildNeighbours_eq_neededCells`), so they stand earlier in the scan.
-/

namespace Sys2Proof

/-! ## The scans of R262 -/

/-- In a causal scan the cells an entry needs were seen before the list or stand earlier in it (R262 (3)). -/
theorem ScanTable.neededCells_mem_take {kind : ScanKind} {N : Nat} {scan : List Nat} :
    ∀ {seen : List Nat} {k : Nat}, ScanTable.causal kind N seen scan = true → ∀ hk : k < scan.length,
      ∀ c ∈ ScanTable.neededCells kind N scan[k], c ∈ seen ∨ c ∈ scan.take k := by
  induction scan with
  | nil => exact fun _ hk => absurd hk (Nat.not_lt_zero _)
  | cons rc rest ih =>
    intro seen k h hk c hc
    simp only [ScanTable.causal, Bool.and_eq_true, List.all_eq_true, List.contains_iff_mem] at h
    obtain ⟨hneeded, hrest⟩ := h
    cases k with
    | zero => exact .inl (hneeded c hc)
    | succ k =>
      rw [List.take_succ_cons, List.mem_cons]
      rcases ih hrest (Nat.lt_of_succ_lt_succ hk) c hc with hseen | htake
      · exact (List.mem_cons.1 hseen).elim (fun h => .inr (.inl h)) .inl
      · exact .inr (.inr htake)

section
variable {id : ScanId} {scan : List Nat} (h : ScanTable.Ok id scan)
include h

theorem ScanTable.Ok.length_eq : scan.length = id.size.area := by rw [h.perm.length_eq, List.length_range]

theorem ScanTable.Ok.nodup : scan.Nodup := h.perm.nodup_iff.2 List.nodup_range

theorem ScanTable.Ok.mem_iff {rc : Nat} : rc ∈ scan ↔ rc < id.size.area := h.perm.mem_iff.trans List.mem_range

/-- Position 0 holds raster cell 0 (R262 (2)). -/
theorem ScanTable.Ok.getD_zero : scan.getD 0 0 = 0 := by
  rw [List.getD_eq_getElem?_getD, ← List.head?_eq_getElem?, h.dcFirst, Option.getD_some]

/-- The entry at a position is a cell of the block. -/
theorem ScanTable.Ok.getD_lt {n : Nat} (hn : n < id.size.area) : scan.getD n 0 < id.size.area := by
  rw [← h.length_eq] at hn
  rw [List.getD_eq_getElem _ _ hn]
  exact h.mem_iff.1 (List.getElem_mem hn)

/-- The scan position of the entry at position `n` is `n`. -/
theorem ScanTable.Ok.idxOf_getD {n : Nat} (hn : n < id.size.area) : scan.idxOf (scan.getD n 0) = n := by
  rw [← h.length_eq] at hn
  rw [List.getD_eq_getElem _ _ hn, h.nodup.idxOf_getElem]

/-- The entry at the scan position of a cell is the cell. -/
theorem ScanTable.Ok.getD_idxOf {rc : Nat} (hrc : rc < id.size.area) : scan.getD (scan.idxOf rc) 0 = rc := by
  have hlt := List.idxOf_lt_length_iff.2 (h.mem_iff.2 hrc)
  rw [List.getD_eq_getElem _ _ hlt, List.getElem_idxOf]

/-- Past position 0 the scan holds no cell 0. -/
theorem ScanTable.Ok.getD_ne_zero {n : Nat} (hpos : 0 < n) (hn : n < id.size.area) : scan.getD n 0 ≠ 0 := by
  intro hzero
  have hidx := h.idxOf_getD hn
  rw [hzero, ← h.getD_zero, h.idxOf_getD (hpos.trans hn)] at hidx
  exact hpos.ne hidx

/-- A cell that the entry at position `n` needs has a scan position before `n` (R262 (3)). -/
theorem ScanTable.Ok.idxOf_lt_of_needed {n : Nat} (hn : n < id.size.area) {c : Nat}
    (hc : c ∈ ScanTable.neededCells id.kind id.size.side (scan.getD n 0)) : scan.idxOf c < n := by
  rw [← h.length_eq] at hn
  rw [List.getD_eq_getElem _ _ hn] at hc
  have htake := (ScanTable.neededCells_mem_take h.causal hn c hc).resolve_left List.not_mem_nil
  exact (List.mem_take_iff_idxOf_lt (List.mem_of_mem_take htake)).1 htake

end

/-- A cell of the first row other than cell 0 is not in the first column. -/
theorem raster_col_pos {N rc : Nat} (hrc : rc ≠ 0) (hi : ¬ 0 < rc / N) : 0 < rc % N := by
  have hdiv := Nat.div_add_mod' rc N
  rw [Nat.eq_zero_of_not_pos hi, Nat.zero_mul, Nat.zero_add] at hdiv
  rw [hdiv]
  exact Nat.pos_of_ne_zero hrc

/-- The raster index of the cell above. -/
theorem raster_above {N rc : Nat} (hi : 0 < rc / N) : (rc / N - 1) * N + rc % N = rc - N := by
  have hrow : N ≤ rc / N * N := Nat.le_mul_of_pos_left N hi
  rw [Nat.sub_one_mul, ← Nat.sub_add_comm hrow, Nat.div_add_mod']

/-! The cells an entry needs, for each place of its cell in the block. -/

section
variable {kind : ScanKind} {N rc : Nat}

theorem ScanTable.neededCells_col (hi : 0 < rc / N) (hj : 0 < rc % N) :
    ScanTable.neededCells .col N rc = [rc - N] := by
  simp [ScanTable.neededCells, hi, hj]

theorem ScanTable.neededCells_row (hi : 0 < rc / N) (hj : 0 < rc % N) :
    ScanTable.neededCells .row N rc = [rc - 1] := by
  simp [ScanTable.neededCells, hi, hj]

theorem ScanTable.neededCells_default (hi : 0 < rc / N) (hj : 0 < rc % N) :
    ScanTable.neededCells .default N rc = [rc - N, rc - 1] := by
  simp [ScanTable.neededCells, hi, hj]

theorem ScanTable.neededCells_firstColumn (hi : 0 < rc / N) (hj : ¬ 0 < rc % N) :
    ScanTable.neededCells kind N rc = [rc - N] := by
  rw [ScanTable.neededCells.eq_def, if_pos hi, if_neg hj]

theorem ScanTable.neededCells_firstRow (hrc : rc ≠ 0) (hi : ¬ 0 < rc / N) :
    ScanTable.neededCells kind N rc = [rc - 1] := by
  rw [ScanTable.neededCells.eq_def, if_neg hi, if_pos (raster_col_pos hrc hi)]

/-- Every cell but cell 0 needs a neighbour. -/
theorem ScanTable.neededCells_ne_nil (hrc : rc ≠ 0) : ScanTable.neededCells kind N rc ≠ [] := by
  by_cases hi : 0 < rc / N
  · by_cases hj : 0 < rc % N
    · cases kind with
      | default => simp [ScanTable.neededCells_default hi hj]
      | row => simp [ScanTable.neededCells_row hi hj]
      | col => simp [ScanTable.neededCells_col hi hj]
    · simp [ScanTable.neededCells_firstColumn hi hj]
  · simp [ScanTable.neededCells_firstRow hrc hi]

end

end Sys2Proof

namespace Sys2Proof.Machine

/-! ## What BUILD computes -/

/-- The first two of a list of scan positions, as NBR_T holds them. -/
def firstTwo (l : List Nat) : Option Nat × Option Nat := (l[0]?, l[1]?)

/-- Past position 0 BUILD's neighbours are the scan positions of the cells that causality asks for (R262 (3), R264). -/
theorem buildNeighbours_eq_neededCells {kind : ScanKind} {N : Nat} {scan : List Nat} {n : Nat} (hn : n ≠ 0)
    (hrc : scan.getD n 0 ≠ 0) :
    buildNeighbours kind N scan n =
      firstTwo ((ScanTable.neededCells kind N (scan.getD n 0)).map scan.idxOf) := by
  simp only [buildNeighbours, if_neg hn, Nat.div_add_mod']
  by_cases hi : 0 < scan.getD n 0 / N
  · rw [raster_above hi]
    by_cases hj : 0 < scan.getD n 0 % N
    · rw [if_pos ⟨hi, hj⟩]
      cases kind with
      | default => rw [ScanTable.neededCells_default hi hj]; rfl
      | row => rw [ScanTable.neededCells_row hi hj]; rfl
      | col => rw [ScanTable.neededCells_col hi hj]; rfl
    · rw [if_neg (fun h => hj h.2), if_pos hi, ScanTable.neededCells_firstColumn hi hj]
      rfl
  · rw [if_neg (fun h => hi h.1), if_neg hi, ScanTable.neededCells_firstRow hrc hi]
    rfl

/-- An entry of ISCAN_T is the scan position of its cell (R264). -/
theorem buildTable_iscan_getElem? {scan : List Nat} {N : Nat} {kind : ScanKind} {rc : Nat} (hrc : rc < N * N) :
    (buildTable scan N kind).iscan[rc]? = some (scan.idxOf rc) := by
  simp [buildTable, buildIscan, hrc]

/-- ISCAN_T of the cell above (R264). -/
theorem buildTable_iscan_above {scan : List Nat} {N : Nat} {kind : ScanKind} {rc : Nat} (hrc : rc < N * N)
    (hi : 0 < rc / N) :
    (buildTable scan N kind).iscan[(rc / N - 1) * N + rc % N]? = some (scan.idxOf (rc - N)) := by
  rw [raster_above hi, buildTable_iscan_getElem? ((Nat.sub_le ..).trans_lt hrc)]

/-- ISCAN_T of the cell left (R264). -/
theorem buildTable_iscan_left {scan : List Nat} {N : Nat} {kind : ScanKind} {rc : Nat} (hrc : rc < N * N) :
    (buildTable scan N kind).iscan[rc / N * N + rc % N - 1]? = some (scan.idxOf (rc - 1)) := by
  rw [Nat.div_add_mod', buildTable_iscan_getElem? ((Nat.sub_le ..).trans_lt hrc)]

/-- An entry of NBR_T is what BUILD computes for its position (R264). -/
theorem buildTable_nbr_getElem? {scan : List Nat} {N : Nat} {kind : ScanKind} {n : Nat} (hn : n < N * N) :
    (buildTable scan N kind).nbr[n]? = some (buildNeighbours kind N scan n) := by
  simp [buildTable, hn]

/-- Past position 0 of a scan R262 allows, NBR_T holds the scan positions of the cells that causality asks for. -/
theorem buildTable_nbr_of_ok {id : ScanId} {scan : List Nat} (h : ScanTable.Ok id scan) {n : Nat} (hpos : 0 < n)
    (hn : n < id.size.area) :
    (buildTable scan id.size.side id.kind).nbr[n]? =
      some (firstTwo ((ScanTable.neededCells id.kind id.size.side (scan.getD n 0)).map scan.idxOf)) := by
  rw [buildTable_nbr_getElem? hn, buildNeighbours_eq_neededCells hpos.ne' (h.getD_ne_zero hpos hn)]

/-- Settles O51: the entry at a position past 0 needs at least one cell, and the cells it needs stand earlier. -/
theorem neighboursAreEarlier : Obligations.NeighboursAreEarlier := by
  intro id scan h n hpos hn
  have hearlier := fun c => h.idxOf_lt_of_needed hn (c := c)
  rw [buildTable_nbr_of_ok h hpos hn]
  obtain ⟨a, rest, hcells⟩ := List.exists_cons_of_ne_nil
    (ScanTable.neededCells_ne_nil (kind := id.kind) (N := id.size.side) (h.getD_ne_zero hpos hn))
  rw [hcells] at hearlier ⊢
  refine ⟨scan.idxOf a, (rest.map scan.idxOf)[0]?, rfl, hearlier a List.mem_cons_self, fun m hm => ?_⟩
  obtain ⟨c, hc, rfl⟩ := List.mem_map.1 (List.mem_of_getElem? hm)
  exact hearlier c (List.mem_cons_of_mem a hc)

/-- Settles O50: `buildTable_nbr_of_ok` where both cells, one or the other exist, with ISCAN_T read at them. -/
theorem buildFollowsTheRule : Obligations.BuildFollowsTheRule := by
  rintro id scan N iscan nbr h rfl hbuild
  obtain rfl : _ = iscan := congrArg BuiltTable.iscan hbuild
  obtain rfl : _ = nbr := congrArg BuiltTable.nbr hbuild
  refine ⟨by simp [buildTable, buildIscan], by simp [buildTable], fun n hn => ?_, fun rc hrc => ?_, ?_, ?_⟩
  · rw [List.getD_eq_getElem?_getD, buildTable_iscan_getElem? (h.getD_lt hn), Option.getD_some, h.idxOf_getD hn]
  · rw [List.getD_eq_getElem?_getD (l := (buildTable ..).iscan), buildTable_iscan_getElem? hrc, Option.getD_some,
      h.getD_idxOf hrc]
  · exact buildTable_nbr_getElem? (by cases id <;> decide)
  · rintro n hpos hn i j rfl rfl
    have hrc := h.getD_lt hn
    rw [buildTable_nbr_of_ok h hpos hn, buildTable_iscan_left hrc]
    refine ⟨fun hi hj hk => ?_, fun hi hj hk => ?_, fun hi hj hk => ?_, fun hi hj => ?_, fun hi => ?_⟩
    · rw [buildTable_iscan_above hrc hi, hk, ScanTable.neededCells_col hi hj]
      rfl
    · rw [hk, ScanTable.neededCells_row hi hj]
      rfl
    · rw [buildTable_iscan_above hrc hi, hk, ScanTable.neededCells_default hi hj]
      rfl
    · rw [buildTable_iscan_above hrc hi, ScanTable.neededCells_firstColumn hi hj.not_gt]
      rfl
    · rw [ScanTable.neededCells_firstRow (h.getD_ne_zero hpos hn) hi.not_gt]
      rfl

/-- Settles O52: BUILD is run on the three scans. -/
theorem fourByFourTables : Obligations.FourByFourTables := ⟨rfl, rfl, rfl⟩

end Sys2Proof.Machine
end

section
/-!
PROOFS. INIT, the constancy of the tables, and GETSCAN (43_scan_context R263, R266 to R268, R273).
-/

namespace Sys2Proof.Machine

/-! ## INIT -/

/-- The first INIT builds the tables (R263). -/
theorem exec_init_of_none {s : State} (h : s.tables = none) :
    exec .init s = .next { s with tables := some (buildTables s.scanRom) } := by
  rcases runInit_ok s with ⟨T, hT, -⟩ | ⟨-, hrun⟩
  · cases h.symm.trans hT
  · exact congrArg (conclude .init s) hrun

/-- A further INIT changes nothing (R263). -/
theorem exec_init_of_built {s : State} (h : s.tables ≠ none) : exec .init s = .next s := by
  rcases runInit_ok s with ⟨-, -, hrun⟩ | ⟨hnone, -⟩
  · exact congrArg (conclude .init s) hrun
  · exact absurd hnone h

/-- STATUS of an engine with no fault and tables built shows READY alone (10_state R35). -/
theorem statusWord_of_ready {s : State} (hf : s.fault = none) (hready : s.tablesReady = true) :
    statusWord s = 0x00000002#32 := by
  simp [statusWord, statusFault, statusReady, statusCause, hf, hready]

/-- Settles O49: the first and the further INIT, and STATUS with tables built on an engine that is not faulted. -/
theorem initBuildsTables : Obligations.InitBuildsTables := by
  refine ⟨fun s => exec_init_of_none, fun s => exec_init_of_built, fun s t h => ?_⟩
  cases hs : s.tables with
  | none =>
    cases (exec_init_of_none hs).symm.trans h
    exact ⟨rfl, fun hreset => statusWord_of_ready (congrArg State.fault hreset) rfl⟩
  | some T =>
    cases (exec_init_of_built (by simp [hs])).symm.trans h
    have hready : s.tablesReady = true := by rw [State.tablesReady, hs, Option.isSome_some]
    exact ⟨hready, fun hreset => statusWord_of_ready (congrArg State.fault hreset) hready⟩

/-! ## Built tables stay -/

/-- No command changes built tables: only INIT writes them, and only where there are none. -/
theorem exec_keeps_built_tables {i : Instr} {s t : State} (hs : s.tables ≠ none) (h : exec i s = .next t) :
    t.tables = s.tables := by
  obtain ⟨-, -, -, -, hinit, -⟩ := resultOwners i s t h
  exact not_not.1 fun hne => hs (hinit hne).2

/-- No write to CMD changes built tables. -/
theorem writeCmd_keeps_built_tables {w : Word} {s t : State} (hs : s.tables ≠ none) (h : writeCmd w s = .next t) :
    t.tables = s.tables := by
  rcases writeCmd_cases h with ⟨-, rfl⟩ | ⟨-, i, -, he⟩ | ⟨-, c, -, rfl⟩
  · rfl
  · exact exec_keeps_built_tables hs he
  · exact raise_tables ..

/-- No access of the host but reset changes built tables (R273). -/
theorem HostEffect.keeps_built_tables {s t : State} {x : HostAccess} (h : HostEffect s x t) (hs : s.tables ≠ none)
    (hx : x ≠ .reset) : t.tables = s.tables := by
  cases h with
  | command w t h => exact writeCmd_keeps_built_tables hs h
  | store addr w => exact hostStore_tables ..
  | reset => exact absurd rfl hx
  | read | pixWrite | pixRead | sharedDraw => rfl

/-- No step but a reset changes built tables (R273). -/
theorem step_keeps_built_tables {s t : State} (h : step s = .next t) (hs : s.tables ≠ none)
    (hreset : s.host.head? ≠ some .reset) : t.tables = s.tables := by
  rcases step_cases h with ⟨-, rfl⟩ | ⟨x, rest, hhost, he⟩
  · rfl
  · rw [hhost, List.head?_cons] at hreset
    exact he.keeps_built_tables hs fun hx => hreset (congrArg some hx)

/-! ## GETSCAN -/

/-- SCAN_SEL of the default kind has zeros in its KIND field (10_state R39). -/
@[simp] theorem scanSelWord_default (sz : TxSize) : scanSelWord .default sz = 0#2 ++ sz.toField := rfl

/-- MODE 0 to 9 of an intra block names a mode (30_encoding R110). -/
theorem exists_mode_of_lt {mode : BitVec 4} (h : mode.toNat < 10) :
    ∃ m, IntraMode.ofField mode = some m ∧ checkMode false mode = .ok (some m) := by
  have hne : IntraMode.ofField mode ≠ none := fun hnone => h.not_ge ((IntraMode.ofField_eq_none mode).1 hnone)
  obtain ⟨m, hm⟩ := Option.ne_none_iff_exists'.1 hne
  exact ⟨m, hm, by simp [checkMode, hm]⟩

/-- MODE passes its check for an inter block, and for an intra block at 0 to 9 (R268). -/
theorem exists_checkMode_ok {isInter : Bool} {mode : BitVec 4} (h : isInter = true ∨ mode.toNat < 10) :
    ∃ m, checkMode isInter mode = .ok m ∧ (isInter = true → m = none) := by
  cases isInter with
  | true => exact ⟨none, rfl, fun _ => rfl⟩
  | false =>
    obtain ⟨m, -, hm⟩ := exists_mode_of_lt (h.resolve_left nofun)
    exact ⟨some m, hm, nofun⟩

/-- The cases of R267 in which the kind is DEFAULT whatever the mode. -/
theorem selectKind_eq_default {map : IntraScanMap} {sz : TxSize} {chroma lossless : Bool} {mode : Option IntraMode}
    (h : mode = none ∨ lossless = true ∨ sz = .s32 ∨ chroma = true) :
    selectKind map sz chroma lossless mode = .default := by
  cases mode with
  | none => rfl
  | some m => rcases h.resolve_left nofun with h | h | h <;> simp [selectKind, h]

/-- The case of R267 in which INTRA_SCAN_MAP gives the kind. -/
theorem selectKind_intra {map : IntraScanMap} {sz : TxSize} (hsz : sz ≠ .s32) (m : IntraMode) :
    selectKind map sz false false (some m) = map.kind m := by
  simp [selectKind, hsz]

/-- LOSSLESS passes its check where it is clear or the size is 4x4 (R268). -/
theorem checkLosslessScan_of_imp {lossless : Bool} {sz : TxSize} (h : lossless = true → sz = .s4) :
    checkLosslessScan lossless sz = .ok () :=
  if_neg fun ⟨hl, hsz⟩ => hsz (h hl)

section
variable {s : State} {sz : TxSize} {chroma isInter lossless : Bool} {mode : BitVec 4}

/-- A GETSCAN whose fields pass on an engine with tables built writes SCAN_SEL (R268). -/
theorem exec_getscan {m : Option IntraMode} (hl : lossless = true → sz = .s4) (hm : checkMode isInter mode = .ok m)
    (ht : s.tables ≠ none) :
    exec (.getscan sz chroma isInter lossless mode) s =
      .next { s with scanSel := some (scanSelWord (selectKind s.params.intraMap sz chroma lossless m) sz) } := by
  obtain ⟨T, hT⟩ := Option.ne_none_iff_exists'.1 ht
  exact congrArg (conclude _ s) (runGetscan_ok.2 ⟨m, T, checkLosslessScan_of_imp hl, hm, hT, rfl⟩)

/-- The first check of GETSCAN is the one of LOSSLESS (R268). -/
theorem runGetscan_losslessIllegal (hl : lossless = true) (hsz : sz ≠ .s4) :
    runGetscan sz chroma isInter lossless mode s = .error .losslessIllegal := by
  rw [runGetscan, checkLosslessScan, if_pos ⟨hl, hsz⟩]
  rfl

/-- The second check of GETSCAN is the one of MODE (R268). -/
theorem runGetscan_badIntraMode (hl : lossless = true → sz = .s4) (hmode : 10 ≤ mode.toNat) :
    runGetscan sz chroma false lossless mode s = .error .badIntraMode := by
  have hm : checkMode false mode = .error .badIntraMode := by
    simp [checkMode, (IntraMode.ofField_eq_none mode).2 hmode]
  rw [runGetscan, checkLosslessScan_of_imp hl, hm]
  rfl

/-- The last check of GETSCAN is the one of the tables (R260, R268). -/
theorem runGetscan_tablesNotReady (hl : lossless = true → sz = .s4) (hmode : isInter = true ∨ mode.toNat < 10)
    (ht : s.tables = none) : runGetscan sz chroma isInter lossless mode s = .error .tablesNotReady := by
  obtain ⟨m, hm, -⟩ := exists_checkMode_ok hmode
  rw [runGetscan, checkLosslessScan_of_imp hl, hm, checkTables_error.2 ⟨ht, rfl⟩]
  rfl

end

/-- Settles O53: GETSCAN writes the kind of `selectKind`, by its DEFAULT cases and its INTRA_SCAN_MAP case. -/
theorem getscanSelects : Obligations.GetscanSelects := by
  intro s sz chroma isInter lossless mode ht hl hmode
  refine ⟨fun hdefault => ?_, ?_⟩
  · obtain ⟨m, hm, hinter⟩ := exists_checkMode_ok hmode
    rw [exec_getscan hl hm ht, selectKind_eq_default (hdefault.imp_left hinter), scanSelWord_default]
  · rintro rfl rfl hsz rfl
    obtain ⟨m, hfield, hm⟩ := exists_mode_of_lt (hmode.resolve_left nofun)
    refine ⟨m, hfield, ?_⟩
    rw [exec_getscan hl hm ht, selectKind_intra hsz, scanSelWord]

/-- Settles O54: each check of GETSCAN in turn, and what ContractViolation does on an engine that is not faulted. -/
theorem getscanTraps : Obligations.GetscanTraps := by
  intro s sz chroma isInter lossless mode w hf hw
  have htrap : ∀ {c}, runGetscan sz chroma isInter lossless mode s = .error c →
      exec (.getscan sz chroma isInter lossless mode) s = .next { s with fault := some c, faultCmd := w } :=
    fun hrun => by rw [exec, execGetscan, hrun, conclude_error, raise_of_none hf, hw]
  refine ⟨fun hl hsz => htrap (runGetscan_losslessIllegal hl hsz), fun hl hinter hmode => ?_, fun hl hmode ht => ?_⟩
  · subst hinter
    exact htrap (runGetscan_badIntraMode hl hmode)
  · exact htrap (runGetscan_tablesNotReady hl hmode ht)

end Sys2Proof.Machine
end

section
/-!
PROOFS. SCANLOOKUP and CTX (43_scan_context R269 to R273). Both begin with the checks of `scanposChecks`. What SCANLOOKUP
stores is a function of the checked fields, the tables and SCAN_ROM (`exec_scanlookup_eq`), what CTX stores one of the
checked fields, the tables and TOK (`exec_ctx_eq`).
-/

namespace Sys2Proof.Machine

/-! ## The two commands as functions of what they read -/

/-- The checks SCANLOOKUP and CTX begin with: of KIND, of POS and of the tables (R270, R271). They give the table's name, the
position and the tables. -/
def scanposChecks (s : State) (sz : TxSize) (kind : BitVec 2) (pos : BitVec 11) :
    Except Cause (ScanId × Nat × ScanTables) := do
  let id ← checkScan sz kind
  let n ← checkPos sz pos
  let tables ← checkTables s
  return (id, n, tables)

/-- The entry SCANLOOKUP reads: `scan[p]`, `iscan[p]` and the two neighbours of `p` (R270). -/
def entryAt (rom : ScanRom) : ScanId × Nat × ScanTables → Nat × Nat × Option Nat × Option Nat
  | (id, p, T) => ((rom.get id).getD p 0, (T.get id).iscan.getD p 0, (T.get id).nbr.getD p (none, none))

/-- An entry in RES0 to RES3 (10_state R41). -/
def State.setEntry (s : State) : Nat × Nat × Option Nat × Option Nat → State
  | (rc, q, a, b) => { s with
      res0 := some (BitVec.ofNat 32 rc), res1 := some (BitVec.ofNat 32 q)
      res2 := some (neighbourWord a), res3 := some (neighbourWord b) }

/-- The context CTX computes, 0 at position 0 (R271). -/
def contextAt (tok : Memory 3) : ScanId × Nat × ScanTables → Except Cause (BitVec 3)
  | (id, n, T) =>
    if n = 0 then .ok 0#3 else (contextOf tok ((T.get id).nbr.getD n (none, none))).map (BitVec.ofNat 3)

/-- A context in CTX_OUT (10_state R40). -/
def State.setCtxOut (s : State) (v : BitVec 3) : State := { s with ctxOut := some v }

@[simp] theorem State.setEntry_fault (s : State) (e : Nat × Nat × Option Nat × Option Nat) :
    (s.setEntry e).fault = s.fault := rfl

@[simp] theorem State.setCtxOut_fault (s : State) (v : BitVec 3) : (s.setCtxOut v).fault = s.fault := rfl

section
variable {s : State} {sz : TxSize} {kind : BitVec 2} {pos : BitVec 11}

/-- SCANLOOKUP is its checks, then the entry they name. -/
theorem exec_scanlookup_eq : exec (.scanlookup sz kind pos) s = conclude (.scanlookup sz kind pos) s
    (((scanposChecks s sz kind pos).map (entryAt s.scanRom)).map s.setEntry) := by
  refine congrArg (conclude _ s) ?_
  unfold runScanlookup scanposChecks
  cases checkScan sz kind with
  | error c => rfl
  | ok id =>
    cases checkPos sz pos with
    | error c => rfl
    | ok p => cases checkTables s <;> rfl

/-- CTX is its checks, then the context of the position they name. -/
theorem exec_ctx_eq : exec (.ctx sz kind pos) s = conclude (.ctx sz kind pos) s
    ((scanposChecks s sz kind pos >>= contextAt s.tok).map s.setCtxOut) := by
  refine congrArg (conclude _ s) ?_
  unfold runCtx scanposChecks
  cases checkScan sz kind with
  | error c => rfl
  | ok id =>
    cases checkPos sz pos with
    | error c => rfl
    | ok n =>
      cases checkTables s with
      | error c => rfl
      | ok T =>
        by_cases hn : n = 0
        · subst hn
          rfl
        · simp only [bind, Except.bind, pure, Except.pure, contextAt, if_neg hn]
          cases contextOf s.tok ((T.get id).nbr.getD n (none, none)) <;> rfl

/-- Of the state the checks read only the tables. -/
theorem scanposChecks_congr {s' : State} (h : s.tables = s'.tables) :
    scanposChecks s sz kind pos = scanposChecks s' sz kind pos := by
  rw [scanposChecks, scanposChecks, checkTables, checkTables, h]

end

/-! ## Two runs of one command (R273) -/

/-- Two runs of a command on engines that are not faulted, with one value or one cause, fault alike or both store
the value. -/
theorem conclude_map_agree {α : Type} {r : Except Cause α} {i : Instr} {s s' t t' : State} {store store' : α → State}
    (h : conclude i s (r.map store) = .next t) (h' : conclude i s' (r.map store') = .next t')
    (hf : s.fault = none) (hf' : s'.fault = none) (hstore : ∀ v, (store v).fault = s.fault)
    (hstore' : ∀ v, (store' v).fault = s'.fault) :
    t.fault = t'.fault ∧ (t.fault = none → ∃ v, t = store v ∧ t' = store' v) := by
  cases r with
  | ok v =>
    cases h
    cases h'
    exact ⟨by rw [hstore, hstore', hf, hf'], fun _ => ⟨v, rfl, rfl⟩⟩
  | error c =>
    cases h
    cases h'
    rw [raise_of_none hf, raise_of_none hf']
    exact ⟨rfl, nofun⟩

/-- Settles O21: `step_keeps_built_tables`, `step_keeps_params_scanRom`, and the two commands as functions of what they
read. -/
theorem tablesConstant : Obligations.TablesConstant := by
  refine ⟨fun s t T hT h hreset => ?_, fun s t h => (step_keeps_params_scanRom h).2,
    fun s s' t t' sz kind pos hT hrom h h' hf hf' => ?_, fun s s' t t' sz kind pos hT htok h h' hf hf' => ?_⟩
  · rw [step_keeps_built_tables h (by simp [hT]) hreset, hT]
  · rw [exec_scanlookup_eq, scanposChecks_congr hT, hrom] at h
    rw [exec_scanlookup_eq] at h'
    refine (conclude_map_agree h h' hf hf' s.setEntry_fault s'.setEntry_fault).imp_right fun hagree hnone => ?_
    obtain ⟨v, rfl, rfl⟩ := hagree hnone
    exact ⟨rfl, rfl, rfl, rfl⟩
  · rw [exec_ctx_eq, scanposChecks_congr hT, htok] at h
    rw [exec_ctx_eq] at h'
    refine (conclude_map_agree h h' hf hf' s.setCtxOut_fault s'.setCtxOut_fault).imp_right fun hagree hnone => ?_
    obtain ⟨v, rfl, rfl⟩ := hagree hnone
    rfl

/-! ## The checks -/

/-- KIND names no scan at 3, and at 1 and 2 of a 32x32 block (30_encoding R109). -/
theorem kindOk_eq_false {sz : TxSize} {kind : BitVec 2} :
    kindOk sz kind = false ↔ kind = 3#2 ∨ (kind ≠ 0#2 ∧ sz = .s32) := by
  simp [kindOk, or_iff_not_imp_left]

/-- KIND names a scan at every other value (30_encoding R109). -/
theorem kindOk_eq_true {sz : TxSize} {kind : BitVec 2} :
    kindOk sz kind = true ↔ kind ≠ 3#2 ∧ (kind = 0#2 ∨ sz ≠ .s32) := by
  simp [kindOk]

/-- The table of a pair is named by its size and kind. -/
@[simp] theorem ScanId.of_size_kind (id : ScanId) : ScanId.of id.size id.kind = some id := by cases id <;> rfl

section
variable {s : State} {sz : TxSize} {kind : BitVec 2} {pos : BitVec 11}

/-- The first check, of KIND (R270, R271). -/
theorem scanposChecks_badScanKind (h : kindOk sz kind = false) :
    scanposChecks s sz kind pos = .error .badScanKind := by
  rw [scanposChecks, checkScan_error.2 ⟨h, rfl⟩]
  rfl

/-- The second check, of POS (R270, R271). -/
theorem scanposChecks_posRange (hk : kindOk sz kind = true) (hp : sz.area ≤ pos.toNat) :
    scanposChecks s sz kind pos = .error .posRange := by
  obtain ⟨id, hid⟩ := checkScan_isOk.2 hk
  rw [scanposChecks, hid, checkPos, if_neg hp.not_gt]
  rfl

/-- The third check, of the tables (R260, R270, R271). -/
theorem scanposChecks_tablesNotReady (hk : kindOk sz kind = true) (hp : pos.toNat < sz.area) (ht : s.tables = none) :
    scanposChecks s sz kind pos = .error .tablesNotReady := by
  obtain ⟨id, hid⟩ := checkScan_isOk.2 hk
  rw [scanposChecks, hid, checkPos, if_pos hp, checkTables_error.2 ⟨ht, rfl⟩]
  rfl

/-- The checks pass at a position of a table that exists, with the tables built. -/
theorem scanposChecks_of_kind {id : ScanId} {T : ScanTables} (hk : ScanKind.ofField kind = some id.kind)
    (hp : pos.toNat < id.size.area) (hT : s.tables = some T) :
    scanposChecks s id.size kind pos = .ok (id, pos.toNat, T) := by
  have hid : checkScan id.size kind = .ok id := by simp [checkScan, hk]
  rw [scanposChecks, hid, checkPos, if_pos hp, checkTables_ok.2 hT]
  rfl

/-- Both commands take the exception of a check that fails. -/
theorem exec_of_scanposChecks_error {i : Instr} {c : Cause} (hi : i = .scanlookup sz kind pos ∨ i = .ctx sz kind pos)
    (h : scanposChecks s sz kind pos = .error c) : exec i s = conclude i s (.error c) := by
  rcases hi with rfl | rfl
  · rw [exec_scanlookup_eq, h]
    rfl
  · rw [exec_ctx_eq, h]
    rfl

end

/-- Settles O55: the three checks in turn, and what ContractViolation does on an engine that is not faulted. -/
theorem scanposTraps : Obligations.ScanposTraps := by
  intro s sz kind pos i hf hi
  have htrap : ∀ {c}, scanposChecks s sz kind pos = .error c →
      exec i s = .next { s with fault := some c, faultCmd := encode i } := fun h => by
    rw [exec_of_scanposChecks_error hi h, conclude_error, raise_of_none hf]
  exact ⟨fun hk => htrap (scanposChecks_badScanKind (kindOk_eq_false.2 hk)),
    fun hk3 hk hp => htrap (scanposChecks_posRange (kindOk_eq_true.2 ⟨hk3, hk⟩) hp),
    fun hk3 hk hp ht => htrap (scanposChecks_tablesNotReady (kindOk_eq_true.2 ⟨hk3, hk⟩) hp ht)⟩

/-! ## The tables of the invariant -/

@[simp] theorem PerScan.get_ofFn {α : Type} (f : ScanId → α) (id : ScanId) : (PerScan.ofFn f).get id = f id := by
  cases id <;> rfl

section
variable {s : State} {T : ScanTables} (hs : TablesOk s) (hT : s.tables = some T)
include hs hT

/-- Built tables hold what BUILD gives for the scan of SCAN_ROM (R263). -/
theorem TablesOk.get_eq (id : ScanId) : T.get id = buildTable (s.scanRom.get id) id.size.side id.kind := by
  rw [hs.built T hT, buildTables, PerScan.get_ofFn]

/-- Past position 0 built tables have a neighbour 0, and every neighbour stands earlier (R262 (3), R271). -/
theorem TablesOk.neighbours_lt {id : ScanId} {n : Nat} (hpos : n ≠ 0) (hn : n < id.size.area) :
    ∃ a b, (T.get id).nbr[n]? = some (some a, b) ∧ ∀ m, (m = a ∨ b = some m) → m < n := by
  obtain ⟨a, b, hnbr, ha, hb⟩ := neighboursAreEarlier id _ (hs.rom.tables id) n (Nat.pos_of_ne_zero hpos) hn
  exact ⟨a, b, by rw [hs.get_eq hT, hnbr], fun m hm => hm.elim (fun h => h ▸ ha) (hb m)⟩

end

/-! ## SCANLOOKUP -/

/-- The three reads of an entry that exists (R270). -/
theorem entryAt_of_getElem? {rom : ScanRom} {T : ScanTables} {id : ScanId} {p rc q : Nat} {nb : Option Nat × Option Nat}
    (hrc : (rom.get id)[p]? = some rc) (hq : (T.get id).iscan[p]? = some q) (hnb : (T.get id).nbr[p]? = some nb) :
    entryAt rom (id, p, T) = (rc, q, nb) := by
  simp [entryAt, hrc, hq, hnb]

/-- Settles O56: the scan and the tables BUILD gives have an entry at every position. -/
theorem scanlookupReads : Obligations.ScanlookupReads := by
  intro s T id kind pos hs hT hk hp
  have hlen : pos.toNat < (s.scanRom.get id).length := by rwa [(hs.rom.tables id).length_eq]
  obtain ⟨rc, hrc⟩ : ∃ rc, (s.scanRom.get id)[pos.toNat]? = some rc := ⟨_, List.getElem?_eq_getElem hlen⟩
  obtain ⟨q, hq⟩ : ∃ q, (T.get id).iscan[pos.toNat]? = some q :=
    ⟨_, by rw [hs.get_eq hT, buildTable_iscan_getElem? hp]⟩
  obtain ⟨⟨a, b⟩, hnb⟩ : ∃ nb, (T.get id).nbr[pos.toNat]? = some nb :=
    ⟨_, by rw [hs.get_eq hT, buildTable_nbr_getElem? hp]⟩
  refine ⟨rc, q, a, b, hrc, hq, hnb, ?_⟩
  rw [exec_scanlookup_eq, scanposChecks_of_kind hk hp hT, Except.map, entryAt_of_getElem? hrc hq hnb, Except.map,
    conclude_ok]
  cases a <;> cases b <;> rfl

/-! ## The context of a position -/

section
variable {tok : Memory 3} {id : ScanId} {n : Nat} {T : ScanTables}

/-- The context of position 0 is 0 (R271). -/
theorem contextAt_zero : contextAt tok (id, 0, T) = .ok 0#3 := rfl

/-- Past position 0 the context is the one of the position's neighbours (R271). -/
theorem contextAt_of_nbr {nb : Option Nat × Option Nat} (hn : n ≠ 0) (h : (T.get id).nbr[n]? = some nb) :
    contextAt tok (id, n, T) = (contextOf tok nb).map (BitVec.ofNat 3) := by
  rw [contextAt, if_neg hn, List.getD_eq_getElem?_getD, h, Option.getD_some]

variable {a : Nat} {b : Option Nat}

/-- The context reads only the tokens of the neighbours (R271). -/
theorem contextOf_congr {tok' : Memory 3} (h : ∀ m, (m = a ∨ b = some m) → tok.read m = tok'.read m) :
    contextOf tok (some a, b) = contextOf tok' (some a, b) := by
  cases b with
  | none => simp only [contextOf, h a (.inl rfl)]
  | some b => simp only [contextOf, h a (.inl rfl), h b (.inr rfl)]

/-- Neighbours with tokens of 0 to 5 have a context (R272). -/
theorem exists_contextOf_ok (h : ∀ m, (m = a ∨ b = some m) → ∃ x, tok.read m = some x ∧ x.toNat ≤ 5) :
    ∃ c, contextOf tok (some a, b) = .ok c := by
  obtain ⟨x, hx, hx5⟩ := h a (.inl rfl)
  cases b with
  | none => exact ⟨_, contextOf_one_ok.2 ⟨x, hx, hx5, rfl⟩⟩
  | some b =>
    obtain ⟨y, hy, hy5⟩ := h b (.inr rfl)
    exact ⟨_, contextOf_two_ok.2 ⟨x, y, hx, hy, hx5, hy5, rfl⟩⟩

/-- The token check has one cause, for the classes 6 and 7 (10_state R45). -/
theorem checkToken_of_gt {x : BitVec 3} (h : 6 ≤ x.toNat) : checkToken x = .error .tokenRange :=
  if_neg (Nat.not_le.2 h)

/-- The token check passes or raises TOKEN_RANGE. -/
theorem checkToken_cases (x : BitVec 3) : checkToken x = .ok x.toNat ∨ checkToken x = .error .tokenRange := by
  unfold checkToken
  split
  · exact .inl rfl
  · exact .inr rfl

/-- A neighbour's token that is unwritten raises UNWRITTEN, whatever the other one is (R271). -/
theorem contextOf_unwritten (h : ∃ m, (m = a ∨ b = some m) ∧ tok.read m = none) :
    contextOf tok (some a, b) = .error .unwritten := by
  obtain ⟨m, rfl | rfl, hm⟩ := h
  · cases b <;> simp [contextOf, hm, bind, Except.bind]
  · cases ha : tok.read a <;> simp [contextOf, ha, hm, bind, Except.bind]

/-- With the neighbours' tokens written, a 6 or 7 among them raises TOKEN_RANGE (R271). -/
theorem contextOf_tokenRange (hw : ∀ m, (m = a ∨ b = some m) → tok.read m ≠ none)
    (h : ∃ m x, (m = a ∨ b = some m) ∧ tok.read m = some x ∧ 6 ≤ x.toNat) :
    contextOf tok (some a, b) = .error .tokenRange := by
  obtain ⟨ta, hta⟩ := Option.ne_none_iff_exists'.1 (hw a (.inl rfl))
  obtain ⟨m, x, hm, hx, hx6⟩ := h
  cases b with
  | none =>
    obtain rfl := hm.resolve_right nofun
    simp [contextOf, hx, checkToken_of_gt hx6, bind, Except.bind]
  | some b =>
    obtain ⟨tb, htb⟩ := Option.ne_none_iff_exists'.1 (hw b (.inr rfl))
    simp only [contextOf, hta, htb, orUnwritten_some, bind, Except.bind]
    rcases hm with rfl | hm
    · cases hta.symm.trans hx
      rw [checkToken_of_gt hx6]
    · cases hm
      cases htb.symm.trans hx
      rcases checkToken_cases ta with h | h <;> rw [h]
      rw [checkToken_of_gt hx6]

end

/-! ## CTX -/

section
variable {s : State} {id : ScanId} {kind : BitVec 2} {pos : BitVec 11} {T : ScanTables}
  (hk : ScanKind.ofField kind = some id.kind) (hp : pos.toNat < id.size.area) (hT : s.tables = some T)
include hk hp hT

/-- CTX with its checks passed is the context of its position (R271). -/
theorem exec_ctx_of_kind : exec (.ctx id.size kind pos) s = conclude (.ctx id.size kind pos) s
    ((contextAt s.tok (id, pos.toNat, T)).map s.setCtxOut) := by
  rw [exec_ctx_eq, scanposChecks_of_kind hk hp hT]
  rfl

/-- CTX stores the context of its position. -/
theorem exec_ctx_of_context {v : BitVec 3} (h : contextAt s.tok (id, pos.toNat, T) = .ok v) :
    exec (.ctx id.size kind pos) s = .next { s with ctxOut := some v } := by
  rw [exec_ctx_of_kind hk hp hT, h]
  rfl

/-- CTX takes the exception its tokens raise. -/
theorem exec_ctx_of_error {c : Cause} (hf : s.fault = none) (h : contextAt s.tok (id, pos.toNat, T) = .error c) :
    exec (.ctx id.size kind pos) s =
      .next { s with fault := some c, faultCmd := encode (.ctx id.size kind pos) } := by
  rw [exec_ctx_of_kind hk hp hT, h, Except.map, conclude_error, raise_of_none hf]

end

/-- A position other than 0 is not 0 as a number. -/
theorem pos_toNat_ne_zero {pos : BitVec 11} (h : pos ≠ 0#11) : pos.toNat ≠ 0 := fun hzero =>
  h (BitVec.eq_of_toNat_eq hzero)

/-- Settles O57: the context of position 0, of one neighbour and of two. -/
theorem contextComputes : Obligations.ContextComputes := by
  intro s T id kind pos hT hk hp
  refine ⟨?_, fun a x hpos hnbr hx hx5 => ?_, fun a b x y hpos hnbr hx hy hx5 hy5 => ?_⟩
  · rintro rfl
    exact exec_ctx_of_context hk hp hT contextAt_zero
  · refine exec_ctx_of_context hk hp hT ?_
    rw [contextAt_of_nbr (pos_toNat_ne_zero hpos) hnbr, contextOf_one_ok.2 ⟨x, hx, hx5, rfl⟩, Except.map,
      BitVec.ofNat_toNat, BitVec.setWidth_eq]
  · refine exec_ctx_of_context hk hp hT ?_
    rw [contextAt_of_nbr (pos_toNat_ne_zero hpos) hnbr, contextOf_two_ok.2 ⟨x, y, hx, hy, hx5, hy5, rfl⟩, Except.map]

/-- Settles O58: `contextOf_unwritten` and `contextOf_tokenRange` on an engine that is not faulted. -/
theorem contextTraps : Obligations.ContextTraps := by
  intro s T id kind pos a b w hf hT hk hp hpos hnbr hw
  have htrap : ∀ {c}, contextOf s.tok (some a, b) = .error c →
      exec (.ctx id.size kind pos) s = .next { s with fault := some c, faultCmd := w } := fun hc => by
    refine hw ▸ exec_ctx_of_error hk hp hT hf ?_
    rw [contextAt_of_nbr (pos_toNat_ne_zero hpos) hnbr, hc, Except.map]
  exact ⟨fun h => htrap (contextOf_unwritten h), fun hwritten h => htrap (contextOf_tokenRange hwritten h)⟩

/-! ## Causality (R272) -/

/-- ContractViolation leaves TOK as it is, whatever it is. -/
theorem raise_set_tok (c : Cause) (w : Word) (s : State) (tok : Memory 3) :
    raise c w { s with tok := tok } = { raise c w s with tok := tok } := by
  rcases Option.eq_none_or_eq_some s.fault with hf | ⟨d, hf⟩
  · rw [raise_of_none hf]
    exact raise_of_none hf
  · rw [raise_of_some hf]
    exact raise_of_some hf

section
variable {s : State} {T : ScanTables} {id : ScanId} {n : Nat} (hs : TablesOk s) (hT : s.tables = some T)
  (hn : n < id.size.area)
include hs hT hn

/-- The context of a position reads only the tokens below it. -/
theorem contextAt_congr {tok tok' : Memory 3} (h : ∀ m < n, tok.read m = tok'.read m) :
    contextAt tok (id, n, T) = contextAt tok' (id, n, T) := by
  by_cases hpos : n = 0
  · subst hpos
    rfl
  · obtain ⟨a, b, hnbr, hlt⟩ := hs.neighbours_lt hT hpos hn
    rw [contextAt_of_nbr hpos hnbr, contextAt_of_nbr hpos hnbr, contextOf_congr fun m hm => h m (hlt m hm)]

/-- With every token below a position 0 to 5, its context is 0 to 5. -/
theorem exists_contextAt_ok {tok : Memory 3} (h : ∀ m < n, ∃ x, tok.read m = some x ∧ x.toNat ≤ 5) :
    ∃ v : BitVec 3, v.toNat ≤ 5 ∧ contextAt tok (id, n, T) = .ok v := by
  by_cases hpos : n = 0
  · subst hpos
    exact ⟨0#3, by decide, contextAt_zero⟩
  · obtain ⟨a, b, hnbr, hlt⟩ := hs.neighbours_lt hT hpos hn
    obtain ⟨c, hc⟩ := exists_contextOf_ok fun m hm => h m (hlt m hm)
    refine ⟨BitVec.ofNat 3 c, ?_, by rw [contextAt_of_nbr hpos hnbr, hc, Except.map]⟩
    rw [BitVec.toNat_ofNat]
    exact (Nat.mod_le _ _).trans (contextOf_le hc)

end

/-- Settles O59: two states that agree below the position have one context or one cause, and CTX keeps the rest. -/
theorem contextIsCausal : Obligations.ContextIsCausal := by
  intro s T id kind pos hs hT hk hp
  refine ⟨fun tok' t hagree h => ?_, fun htok => ?_⟩
  · rw [exec_ctx_of_kind hk hp hT, contextAt_congr hs hT hp hagree] at h
    rw [exec_ctx_of_kind (s := { s with tok := tok' }) hk hp hT]
    cases hc : contextAt tok' (id, pos.toNat, T) with
    | ok v =>
      rw [hc] at h
      cases h
      rfl
    | error c =>
      rw [hc] at h
      cases h
      exact congrArg _ (raise_set_tok ..)
  · obtain ⟨v, hv, hcontext⟩ := exists_contextAt_ok hs hT hp htok
    exact ⟨v, hv, exec_ctx_of_context hk hp hT hcontext⟩

end Sys2Proof.Machine
end

section
/-!
PROOFS. The exceptions (60_exceptions R300 to R304, R316): a command completes or takes ContractViolation precisely, no
command stops the machine, and only the platform's reset leaves the fault state.
-/

namespace Sys2Proof.Machine

/-! ## Precise faults -/

/-- No family's effect reaches STATUS.FAULT, STATUS.CAUSE or FAULT_CMD. -/
theorem Effect.keeps_fault {s t : State} {i : Instr} (h : Effect s i t) :
    t.fault = s.fault ∧ t.faultCmd = s.faultCmd := by
  cases h <;> exact ⟨rfl, rfl⟩

/-- A command word on an engine that is not faulted completes without a fault, or changes only the fault record, where
it records itself (R301). -/
theorem runWord_precise {s : State} (w : Word) (hf : s.fault = none) :
    (∃ u, runWord w s = .next u ∧ u.fault = none) ∨
      ∃ c, runWord w s = .next { s with fault := some c, faultCmd := w } := by
  rcases runWord_cases w s with ⟨i, hd, hrun⟩ | ⟨c, hd, -⟩
  · rcases exec_cases i s with ⟨u, hu, he⟩ | ⟨c, hc⟩
    · exact .inl ⟨u, hrun.trans hu, he.keeps_fault.1.trans hf⟩
    · rw [encodeOfDecode _ _ _ hd, raise_of_none hf] at hc
      exact .inr ⟨c, hrun.trans hc⟩
  · exact .inr ⟨c, runWord_faults hf hd⟩

/-- STATUS.FAULT shows a recorded fault (10_state R35). -/
theorem statusFault_of_some {s : State} {c : Cause} (h : s.fault = some c) : statusFault s = true := by
  simp [statusFault, h]

/-- Settles O10: a faulting word is the second case of `runWord_precise`. -/
theorem faultsArePrecise : Obligations.FaultsArePrecise := by
  intro s t w hf h hfault
  rcases runWord_precise w hf with ⟨u, hu, hnone⟩ | ⟨c, hc⟩
  · cases hu.symm.trans h
    exact absurd hnone hfault
  · cases hc.symm.trans h
    exact ⟨c, rfl, statusFault_of_some rfl, statusCause_of_some rfl⟩

/-! ## No command stops -/

/-- While a fault is recorded, a write to CMD is ignored (R303). -/
theorem writeCmd_of_faulted {s : State} (w : Word) (hf : s.fault ≠ none) : writeCmd w s = .next s := by
  obtain ⟨c, hc⟩ := Option.ne_none_iff_exists'.1 hf
  simp [writeCmd, hc]

/-- A write to CMD answers a next state, whatever the word and the state (R300). -/
theorem writeCmd_completes (w : Word) (s : State) : ∃ t, writeCmd w s = .next t := by
  by_cases hf : s.fault = none
  · have hrun : writeCmd w s = runWord w s := by rw [writeCmd, hf]
    rw [hrun]
    rcases runWord_precise w hf with ⟨u, hu, -⟩ | ⟨c, hc⟩
    · exact ⟨u, hu⟩
    · exact ⟨_, hc⟩
  · exact ⟨s, writeCmd_of_faulted w hf⟩

/-- A host write to any register address answers a next state. -/
theorem hostWrite_completes (addr : Nat) (w : Word) (s : State) : ∃ t, hostWrite addr w s = .next t := by
  by_cases ha : addr = 0
  · subst ha
    exact writeCmd_completes w s
  · exact ⟨_, hostWrite_other ha w s⟩

/-- The accesses of the host side to PIX cell `a` (20_memory R70, R83). -/
def HostAccess.ReachesPix (x : HostAccess) (a : Nat) : Prop :=
  (∃ v, x = .pixWrite a v) ∨ x = .pixRead a ∨ ∃ bd, x = .sharedDraw a bd

/-- An access to a PIX cell completes, or stops because the cell does not exist (log entry 16). -/
theorem onPixCell_cases (a : Nat) (s t : State) :
    (∃ u, onPixCell a s t = .next u) ∨
      s.params.pixSize ≤ a ∧ onPixCell a s t = .fault (.pixOutOfRange a) := by
  rcases Nat.lt_or_ge a s.params.pixSize with ha | ha
  · exact .inl ⟨t, onPixCell_of_lt ha⟩
  · exact .inr ⟨ha, onPixCell_of_le ha⟩

/-- An access of the host completes, or stops because it reaches a PIX cell that does not exist (log entry 16). -/
theorem hostAccess_cases (x : HostAccess) (s : State) :
    (∃ t, hostAccess x s = .next t) ∨
      ∃ a, x.ReachesPix a ∧ s.params.pixSize ≤ a ∧ hostAccess x s = .fault (.pixOutOfRange a) := by
  cases x with
  | write addr w => exact .inl (hostWrite_completes addr w s)
  | read | reset => exact .inl ⟨_, rfl⟩
  | pixWrite a v => exact (onPixCell_cases a s _).imp_right fun h => ⟨a, .inl ⟨v, rfl⟩, h⟩
  | pixRead a => exact (onPixCell_cases a s _).imp_right fun h => ⟨a, .inr (.inl rfl), h⟩
  | sharedDraw a bd => exact (onPixCell_cases a s _).imp_right fun h => ⟨a, .inr (.inr ⟨bd, rfl⟩), h⟩

/-- With no pending access of the host, a step is the same state (R316). -/
theorem step_of_idle {s : State} (h : s.host = []) : step s = .next s := by
  simp [step, hostStep, h]

/-- A step completes, or stops because the host's next access reaches a PIX cell that does not exist. -/
theorem step_completes_or_stops (s : State) :
    (∃ t, step s = .next t) ∨
      ∃ x a, s.host.head? = some x ∧ x.ReachesPix a ∧ s.params.pixSize ≤ a ∧ step s = .fault (.pixOutOfRange a) := by
  cases hs : s.host with
  | nil => exact .inl ⟨s, step_of_idle hs⟩
  | cons x rest =>
    rw [step_of_host hs]
    exact (hostAccess_cases x _).imp_right fun ⟨a, hx, ha, hstop⟩ => ⟨x, a, rfl, hx, ha, hstop⟩

/-- Settles O11: `writeCmd_completes`, and the one stop of `step_completes_or_stops`. -/
theorem noCommandStops : Obligations.NoCommandStops := by
  refine ⟨fun s w => writeCmd_completes w s, fun s r h => ?_, fun s f h => ?_⟩
  · rcases step_completes_or_stops s with ⟨t, ht⟩ | ⟨x, a, -, -, -, hstop⟩
    · cases ht.symm.trans h
    · cases hstop.symm.trans h
  · rcases step_completes_or_stops s with ⟨t, ht⟩ | ⟨x, a, hhead, hx, ha, hstop⟩
    · cases ht.symm.trans h
    · cases hstop.symm.trans h
      refine ⟨a, rfl, ha, ?_⟩
      rw [hhead]
      rcases hx with ⟨v, rfl⟩ | rfl | ⟨bd, rfl⟩
      · exact .inl ⟨v, rfl⟩
      · exact .inr (.inl rfl)
      · exact .inr (.inr ⟨bd, rfl⟩)

/-! ## The way out of the fault state -/

/-- No access of the host but reset changes a recorded fault or its FAULT_CMD (R304). -/
theorem HostEffect.keeps_fault {s t : State} {x : HostAccess} (h : HostEffect s x t) (hf : s.fault ≠ none)
    (hx : x ≠ .reset) : t.fault = s.fault ∧ t.faultCmd = s.faultCmd := by
  cases h with
  | command w t h =>
    cases (writeCmd_of_faulted w hf).symm.trans h
    exact ⟨rfl, rfl⟩
  | store addr w => exact ⟨hostStore_fault .., hostStore_faultCmd ..⟩
  | reset => exact absurd rfl hx
  | read | pixWrite | pixRead | sharedDraw => exact ⟨rfl, rfl⟩

/-- No step but a reset changes a recorded fault or its FAULT_CMD (R304). -/
theorem step_keeps_fault {s t : State} (h : step s = .next t) (hf : s.fault ≠ none)
    (hreset : s.host.head? ≠ some .reset) : t.fault = s.fault ∧ t.faultCmd = s.faultCmd := by
  rcases step_cases h with ⟨-, rfl⟩ | ⟨x, rest, hhost, he⟩
  · exact ⟨rfl, rfl⟩
  · rw [hhost, List.head?_cons] at hreset
    exact he.keeps_fault hf fun hx => hreset (congrArg some hx)

/-- Settles O12: `step_keeps_fault`, and the reset values of the fault record and TABLES_READY. -/
theorem onlyResetClearsFault : Obligations.OnlyResetClearsFault := by
  refine ⟨fun s t c hc h hreset => ?_, fun s rest hs t ht => ?_⟩
  · obtain ⟨hfault, hcmd⟩ := step_keeps_fault h (by simp [hc]) hreset
    rw [hc] at hfault
    exact ⟨hfault, hcmd, statusFault_of_some hfault, statusCause_of_some hfault⟩
  · subst ht
    exact ⟨step_of_host hs, rfl, statusCause_of_none rfl, rfl, rfl⟩

/-! ## A faulted engine and an idle one -/

/-- Settles O9: `writeCmd_of_faulted`; other accesses do not depend on STATUS.FAULT. -/
theorem faultedEngineIgnoresCommands : Obligations.FaultedEngineIgnoresCommands := by
  intro s rest hf
  refine ⟨fun w hs => ?_, fun addr w ha hs => step_of_store ha hs, fun addr hs => step_of_host hs⟩
  exact (step_of_host hs).trans (writeCmd_of_faulted (s := { s with host := rest }) w hf)

/-- Settles O22: `step_of_idle`. -/
theorem idleHoldsState : Obligations.IdleHoldsState := fun _ => step_of_idle

end Sys2Proof.Machine
end

section
/-!
PROOFS. Hazards (70_reset_and_hazards R346): a RECON that completed leaves no coefficient of its block behind.
-/

namespace Sys2Proof

theorem TxSize.area_pos (sz : TxSize) : 0 < sz.area := Nat.mul_pos sz.side_pos sz.side_pos

end Sys2Proof

namespace Sys2Proof.Machine

/-- A RECON whose first coefficient is unwritten traps there, whatever its size, once its fields and its destination pass
the checks before (R203 (6)). -/
theorem exec_recon_coef_zero_unwritten {s : State} {sz : TxSize} {bdsel : BitVec 2} {bd : BitDepth} {eob : BitVec 11}
    {base stride : Word} {i : Instr} (hf : s.fault = none) (hi : ReconCommand s.params sz bdsel eob i)
    (hb : DepthOk s.params bdsel bd) (he : eob.toNat ≤ sz.area) (hbase : s.dstBase = some base)
    (hstride : s.dstStride = some stride) (hwide : sz.side ≤ stride.toNat)
    (hpix : blockAddr base stride (sz.side - 1) (sz.side - 1) < s.params.pixSize) (hcoef : s.coef.read 0 = none) :
    exec i s = .next { s with fault := some .unwritten, faultCmd := encode i } := by
  obtain ⟨-, hchecks⟩ := reconTraps s sz bdsel eob i hf
  obtain ⟨-, hfields⟩ := hchecks hi
  obtain ⟨-, hoperands⟩ := hfields bd hb
  obtain ⟨-, hdest⟩ := hoperands he
  obtain ⟨-, hunwritten⟩ := hdest base stride hbase hstride
  exact hunwritten hwide hpix (.inl ⟨0, sz.area_pos, hcoef⟩)

/-- Settles O44: the first RECON erases COEF[0] and keeps the fault, the parameters and the destination, so the second
one passes every check up to its coefficients. -/
theorem blockIsConsumed : Obligations.BlockIsConsumed := by
  intro s u t t' sz sz' bdsel bd eob eob' base stride hf ht ht' hb he he' h hwide hpix hu
  obtain ⟨m, cs, d, hexec, -, -, herased, -⟩ :=
    reconCompletes s sz bdsel bd eob base stride _ (.inl ⟨t, ht, rfl⟩) hb he h
  cases hexec.symm.trans hu
  exact exec_recon_coef_zero_unwritten hf (.inl ⟨t', ht', rfl⟩) hb he' h.dstBase h.dstStride hwide hpix
    (herased 0 sz.area_pos)

end Sys2Proof.Machine
end
